-- ==== Sys2Proof/Word.lean ====
section
/-! DEFINITION. The word types of the CLE (00_scope.md R8): `u8`, `u32`, and the 13-bit bus address. -/

namespace Sys2Proof

/-- `u8` of R8: one byte; `^^^`, `~~~`, `+` wrap modulo 2^8. -/
abbrev Byte := BitVec 8

/-- `u32` of R8: a register, a command word, one word of MD5. -/
abbrev Word := BitVec 32

/-- PADDR of R36: a byte address inside the 8 KiB window, an offset from `BASE` (R7, R40). -/
abbrev Addr := BitVec 13

end Sys2Proof
end

