-- ==== Sys2Proof/Syntax.lean ====
section
/-! DEFINITION. The command set CLE-CMD 1.0 as a type: one constructor per row of the opcode map (30_encoding.md R51).
No command has an immediate (R55); the only operands in a command word are the flag bits PAD and DEST. -/

namespace Sys2Proof

/-- The DEST flag of MD5_FINAL (R50): 0 writes the digest to DIGEST, 1 writes it to SUM. -/
inductive DigestDest where
  | digest
  | sum
deriving DecidableEq, Repr

/-- The 22 commands of R51, in the table's order. -/
inductive Instr where
  /-- NOP, R65. -/
  | nop
  /-- CRC8_IVENC, R83. -/
  | crc8Ivenc
  /-- CRC8_BUF, R84. -/
  | crc8Buf
  /-- LRC_BUF, R85. -/
  | lrcBuf
  /-- GCHK_IVENC, R86. -/
  | gchkIvenc
  /-- VERIFY_G0, R87. -/
  | verifyG0
  /-- VERIFY_G1, R88. -/
  | verifyG1
  /-- MD5_INIT, R93. -/
  | md5Init
  /-- MD5_UPDATE, R94. -/
  | md5Update
  /-- MD5_UPDATE_SUMB, R95. -/
  | md5UpdateSumb
  /-- MD5_FINAL, R96, with its flag DEST. -/
  | md5Final (dest : DigestDest)
  /-- CMP_DIGEST, R97. -/
  | cmpDigest
  /-- KD_HEX, R101. -/
  | kdHex
  /-- KD_UUID, R102. -/
  | kdUuid
  /-- KD_G0, R103. -/
  | kdG0
  /-- KD_G1, R104. -/
  | kdG1
  /-- IV_MASK_G0, R105. -/
  | ivMaskG0
  /-- IV_MASK_G1, R106. -/
  | ivMaskG1
  /-- IV_UNMASK_G0, R107. -/
  | ivUnmaskG0
  /-- IV_UNMASK_G1, R108. -/
  | ivUnmaskG1
  /-- AES_CBC_ENC, R119, with its flag PAD. -/
  | aesCbcEnc (pad : Bool)
  /-- AES_CBC_DEC, R120, with its flag PAD. -/
  | aesCbcDec (pad : Bool)
deriving DecidableEq, Repr

/-- The fields of the one format CMD32 (R50): OP, PAD, DEST and the reserved bits 31:10. -/
structure Cmd32 where
  op   : Byte
  pad  : Bool
  dest : Bool
  rsvd : BitVec 22
deriving DecidableEq, Repr

end Sys2Proof
end

