-- ==== Sys2Proof/WellFormed.lean ====
section
/-! DEFINITION. Which command words are legal, said over the fields of the format CMD32 (30_encoding.md R50, R53, R54),
and the fields each command stands for. The checks here are written apart from the decoder: `Decode.lean` matches words,
this file tests fields. -/

namespace Sys2Proof

/-- DefinedOps of R53: the 22 opcodes of R51. -/
def definedOps : List Byte :=
  [0x00] ++ [0x10, 0x11, 0x12, 0x13, 0x14, 0x15] ++ [0x20, 0x21, 0x22, 0x23, 0x24] ++
  [0x30, 0x31, 0x32, 0x33, 0x34, 0x35, 0x36, 0x37] ++ [0x40, 0x41]

/-- The opcode is one of the 22 defined ones (R51, R54). -/
def Cmd32.opDefined (c : Cmd32) : Bool := definedOps.contains c.op

/-- PAD stands only on AES_CBC_ENC and AES_CBC_DEC (R50). -/
def Cmd32.padAllowed (c : Cmd32) : Bool := !c.pad || c.op == 0x40 || c.op == 0x41

/-- DEST stands only on MD5_FINAL (R50). -/
def Cmd32.destAllowed (c : Cmd32) : Bool := !c.dest || c.op == 0x23

/-- The reserved bits 31:10 are 0 (R50). -/
def Cmd32.rsvdZero (c : Cmd32) : Bool := c.rsvd == 0

/-- `legal(w)` of R53, over the fields. -/
def Cmd32.wf (c : Cmd32) : Bool := c.opDefined && c.padAllowed && c.destAllowed && c.rsvdZero

/-- The opcode of a command (R51). -/
def Instr.opcode : Instr → Byte
  | .nop => 0x00
  | .crc8Ivenc => 0x10
  | .crc8Buf => 0x11
  | .lrcBuf => 0x12
  | .gchkIvenc => 0x13
  | .verifyG0 => 0x14
  | .verifyG1 => 0x15
  | .md5Init => 0x20
  | .md5Update => 0x21
  | .md5UpdateSumb => 0x22
  | .md5Final _ => 0x23
  | .cmpDigest => 0x24
  | .kdHex => 0x30
  | .kdUuid => 0x31
  | .kdG0 => 0x32
  | .kdG1 => 0x33
  | .ivMaskG0 => 0x34
  | .ivMaskG1 => 0x35
  | .ivUnmaskG0 => 0x36
  | .ivUnmaskG1 => 0x37
  | .aesCbcEnc _ => 0x40
  | .aesCbcDec _ => 0x41

/-- PAD of a command: false for a command without that flag. -/
def Instr.padFlag : Instr → Bool
  | .aesCbcEnc pad => pad
  | .aesCbcDec pad => pad
  | _ => false

/-- DEST of a command: false for a command without that flag. -/
def Instr.destFlag : Instr → Bool
  | .md5Final .sum => true
  | _ => false

/-- The format fields a command stands for. -/
def Instr.fields (i : Instr) : Cmd32 := ⟨i.opcode, i.padFlag, i.destFlag, 0⟩

/-- A command is well-formed when its format fields are legal. The constructors admit no other
(`Laws.EncodeFields.Statement`): the ill-formed terms are field records (`Tests/Slice0.lean`). -/
def Instr.wf (i : Instr) : Bool := i.fields.wf

end Sys2Proof
end

