-- ==== Sys2Proof/Decode.lean ====
section
/-! DEFINITION. The decoder of command words (30_encoding.md R50 to R56), total on every word and every byte string,
rejecting by name, and after it the encoder, written from the same table. The byte-order helpers of the register bus
(20_memory.md R42) stand here too. -/

namespace Sys2Proof

/-- Byte lane `b` of a word: bits `8b+7 : 8b` (R36, PSTRB). -/
def lane (d : Word) (b : Nat) : Byte := d.extractLsb' (8 * b) 8

/-- The word whose lanes 0, 1, 2, 3 are the four bytes: little-endian (R42). -/
def wordOfBytes (b0 b1 b2 b3 : Byte) : Word := b3 ++ b2 ++ b1 ++ b0

/-- The four bytes of a word, the one at the lowest address first (R42). -/
def bytesOfWord (w : Word) : List Byte := [lane w 0, lane w 1, lane w 2, lane w 3]

/-- The fields of a command word (R50). -/
def cmd32OfWord (w : Word) : Cmd32 := ⟨w.extractLsb' 0 8, w[8], w[9], w.extractLsb' 10 22⟩

/-- Why a word selects no command (R53, R132). At completion every reason but `truncated` is the error
ILLEGAL_COMMAND; `truncated` is said of a byte string that holds no whole word (log entry 15). -/
inductive DecodeError where
  | truncated
  | reservedOpcode
  | flagNotAllowed
  | reservedBits
deriving DecidableEq, Repr

/-- The row of R51 an opcode selects, with its flag bits as read. -/
def commandOfOpcode (op : Byte) (pad dest : Bool) : Option Instr :=
  match op.toNat with
  | 0x00 => some .nop
  | 0x10 => some .crc8Ivenc
  | 0x11 => some .crc8Buf
  | 0x12 => some .lrcBuf
  | 0x13 => some .gchkIvenc
  | 0x14 => some .verifyG0
  | 0x15 => some .verifyG1
  | 0x20 => some .md5Init
  | 0x21 => some .md5Update
  | 0x22 => some .md5UpdateSumb
  | 0x23 => some (.md5Final (if dest then .sum else .digest))
  | 0x24 => some .cmpDigest
  | 0x30 => some .kdHex
  | 0x31 => some .kdUuid
  | 0x32 => some .kdG0
  | 0x33 => some .kdG1
  | 0x34 => some .ivMaskG0
  | 0x35 => some .ivMaskG1
  | 0x36 => some .ivUnmaskG0
  | 0x37 => some .ivUnmaskG1
  | 0x40 => some (.aesCbcEnc pad)
  | 0x41 => some (.aesCbcDec pad)
  | _ => none

/-- `allowed(op)` of R53: the flag bits an opcode takes. -/
def allowedFlags (op : Byte) : Word :=
  if op = 0x40 ∨ op = 0x41 then 0x100 else if op = 0x23 then 0x200 else 0

/-- The decoder of R53. -/
def decode (w : Word) : Except DecodeError Instr :=
  let op : Byte := w.extractLsb' 0 8
  match commandOfOpcode op w[8] w[9] with
  | none => .error .reservedOpcode
  | some i =>
    if w &&& ~~~(0xFF ||| allowedFlags op) = 0 then .ok i
    else if w.extractLsb' 10 22 ≠ 0 then .error .reservedBits
    else .error .flagNotAllowed

/-- Decoding a byte string: the first four bytes as one little-endian word (R42, R56), and the rest. -/
def decodeBytes : List Byte → Except DecodeError (Instr × List Byte)
  | b0 :: b1 :: b2 :: b3 :: rest =>
    match decode (wordOfBytes b0 b1 b2 b3) with
    | .ok i => .ok (i, rest)
    | .error e => .error e
  | _ => .error .truncated

/-- The command word of a command (R51, R57: each mnemonic with its flags 0 is `0x000000OP`; `.pad` sets bit 8,
`.sum` sets bit 9). -/
def encode : Instr → Word
  | .nop => 0x00000000
  | .crc8Ivenc => 0x00000010
  | .crc8Buf => 0x00000011
  | .lrcBuf => 0x00000012
  | .gchkIvenc => 0x00000013
  | .verifyG0 => 0x00000014
  | .verifyG1 => 0x00000015
  | .md5Init => 0x00000020
  | .md5Update => 0x00000021
  | .md5UpdateSumb => 0x00000022
  | .md5Final .digest => 0x00000023
  | .md5Final .sum => 0x00000223
  | .cmpDigest => 0x00000024
  | .kdHex => 0x00000030
  | .kdUuid => 0x00000031
  | .kdG0 => 0x00000032
  | .kdG1 => 0x00000033
  | .ivMaskG0 => 0x00000034
  | .ivMaskG1 => 0x00000035
  | .ivUnmaskG0 => 0x00000036
  | .ivUnmaskG1 => 0x00000037
  | .aesCbcEnc false => 0x00000040
  | .aesCbcEnc true => 0x00000140
  | .aesCbcDec false => 0x00000041
  | .aesCbcDec true => 0x00000141

/-- The bytes of a command word as the bus stores them (R42). -/
def encodeBytes (i : Instr) : List Byte := bytesOfWord (encode i)

/-- The command word whose low `nbits` bits are `w`, every bit above them 0. -/
def tableWord (nbits w : Nat) : Word := BitVec.ofNat 32 (w % 2 ^ nbits)

/-- What the decoder reads from the row word `w`: its bytes in the bus's order, decoded. -/
def decodeTableWord (nbits w : Nat) : Option Instr :=
  match decodeBytes (bytesOfWord (tableWord nbits w)) with
  | .ok (i, _) => some i
  | .error _ => none

end Sys2Proof
end

