-- ==== Sys2Proof/Machine/BitTransform.lean ====
section
/-! DEFINITION. The bit-transform tables (41_bit_transform.md R70 to R72): combinational functions of one byte. -/

namespace Sys2Proof.Machine

/-- `parity8`, the XOR-fold of the eight bits (R70). -/
def parity8 (x : Byte) : Bool := x[7] ^^ x[6] ^^ x[5] ^^ x[4] ^^ x[3] ^^ x[2] ^^ x[1] ^^ x[0]

/-- `gray8`, the reflected binary Gray code (R71). -/
def gray8 (x : Byte) : Byte := x ^^^ (x >>> 1)

/-- `brev8`, the eight bits reversed: bit `7 - i` of the result is bit `i` of `x` (R72). -/
def brev8 (x : Byte) : Byte :=
  BitVec.ofBool x[0] ++ BitVec.ofBool x[1] ++ BitVec.ofBool x[2] ++ BitVec.ofBool x[3] ++
  BitVec.ofBool x[4] ++ BitVec.ofBool x[5] ++ BitVec.ofBool x[6] ++ BitVec.ofBool x[7]

end Sys2Proof.Machine
end

