-- ==== Sys2Proof/Config.lean ====
section
/-! DEFINITION. What an implementation fixes, and the free values. A free value is an opaque constant with no
body: nothing in Lean can evaluate it or prove what it is, so a claim that holds is true whichever value the hardware
has. -/

namespace Sys2Proof.Config

/-- The constant of the ID register: part 0xCB07, major 1, minor 0 (R2, R13). -/
def idWord : Word := 0xCB070100

/-- `BUF_SIZE` of the default build (R7). The build value itself stands in `Machine.Memory.size`, so that a
claim covers every legal build (log entry 7). -/
def defaultBufSize : Nat := 4096

/-- The open parameter `BASE` (R7, R46): where the platform places the 8 KiB window. The engine sees only
offsets from it, so no rule depends on its value (log entry 8). -/
opaque base : Nat

/-- The system address at which the platform places an offset of the window (R46). -/
def systemAddress (a : Addr) : Nat := base + a.toNat

/-- What BUF byte `a` holds after power-on, until it is written: unspecified, one free draw per byte
(R31, R160; log entry 3). -/
opaque powerOnByte : Nat → Byte

/-- The `n`-th unspecified 32-bit read value: R39 (a read of a result register or of BUF while BUSY = 1) and R160
(a read while PRESETn = 0); a fresh draw per read (log entry 4). -/
opaque unspecWord : Nat → Word

/-- The `n`-th unspecified byte left in the destination region of an aborted AES command (R161; log entry 5). -/
opaque unspecByte : Nat → Byte

end Sys2Proof.Config
end

