-- ==== Sys2Proof/Machine/State.lean ====
section
/-! DEFINITION. The state of the CLE: every register of the map of 10_state.md R12, the buffer (R31), the hidden MD5
context (R32), the pending-command latch (R33), and the pins and inputs of the bus (20_memory.md R36). Plain data.
Registers with reserved bits are held as their defined fields: a reserved bit reads 0 and ignores writes, so nothing of
it can be stored (R12). -/

namespace Sys2Proof.Machine

/-- The six command errors of 60_exceptions.md R130. The codes 7 to 15 are never produced, so they have no name. -/
inductive ErrCode where
  /-- Code 1, R132. -/
  | illegalCommand
  /-- Code 2, R133. -/
  | bounds
  /-- Code 3, R134. -/
  | cipherLenWrong
  /-- Code 4, R135. -/
  | paddingWrong
  /-- Code 5, R136. -/
  | ivCheckError
  /-- Code 6, R137. -/
  | checksumWrong
deriving DecidableEq, Repr

/-- CTRL's stored fields (R14). SRST is write-only and reads 0. -/
structure Ctrl where
  role  : Bool
  hexlc : Bool
  irqen : Bool
deriving DecidableEq, Repr

/-- The four byte fields of CHK and of CHKREF (R19, R20). -/
structure Checks where
  crc : Byte
  g1  : Byte
  lrc : Byte
  g2  : Byte
deriving DecidableEq, Repr

/-- CRCCFG's fields (R21). -/
structure CrcCfg where
  poly   : Byte
  init   : Byte
  xorout : Byte
  refin  : Bool
  refout : Bool
deriving DecidableEq, Repr

/-- G1CFG's fields (R22). -/
structure G1Cfg where
  r0OddNot  : Bool
  r0EvenNot : Bool
  r1OddNot  : Bool
  r1EvenNot : Bool
  gprev0    : Bool
deriving DecidableEq, Repr

/-- The four chaining words of MD5 (R32). -/
structure Md5Chain where
  a : Word
  b : Word
  c : Word
  d : Word
deriving DecidableEq, Repr

/-- The hidden MD5 context M (R32): the chaining words, NBYTES modulo 2^61, and PART, the bytes not yet compressed
(fewer than 64 in every legal state, `Safety.lean`). -/
structure Md5Context where
  chain  : Md5Chain
  nbytes : BitVec 61
  part   : List Byte
deriving DecidableEq, Repr

/-- The pending-command latch PEND (R33). -/
structure Pending where
  word : Word
  src  : Word
  dst  : Word
  len  : Word
deriving DecidableEq, Repr

/-- The byte buffer BUF (R31): its size BUF_SIZE, a build value (R7), and the bytes written so far, addresses
strictly rising (`Memory.wf`). A byte that nothing has written since power-on has no cell; it reads as
`Config.powerOnByte` (log entry 3). -/
structure Memory where
  size  : Nat
  cells : List Host.Cell
deriving DecidableEq, Repr

/-- One host transfer on the register bus (R36). PPROT is carried and ignored (R47). -/
inductive Transfer where
  | write (addr : Addr) (data : Word) (strb : BitVec 4) (prot : BitVec 3)
  | read (addr : Addr) (prot : BitVec 3)
deriving DecidableEq, Repr

/-- What happens next at the machine's boundary: a host transfer, the engine's turn (it completes the pending
command if there is one, R61), or a change of the pin PRESETn (R160). Log entry 1. -/
inductive Turn where
  | bus (x : Transfer)
  | engine
  | presetn (level : Bool)
deriving DecidableEq, Repr

/-- The slave's answer to a transfer (R36): PSLVERR, and PRDATA for a read. -/
inductive BusResponse where
  | wrote (slverr : Bool)
  | read (data : Word) (slverr : Bool)
deriving DecidableEq, Repr

/-- The state of the CLE. STATUS.BUSY (the sequencer state SEQ, R11) is the validity of `pend`, and STATUS.ERR and
STATUS.ERRCODE are `err` (log entry 13). The last four fields are not registers: the pin PRESETn, the agents' turns still
to come, the answer to the last transfer, and the number of free values drawn so far. -/
structure State where
  /-- CTRL, R14. -/
  ctrl   : Ctrl
  /-- STATUS.DONE, R15. -/
  done   : Bool
  /-- STATUS.ERR and STATUS.ERRCODE, R15: `none` is ERR = 0, ERRCODE = 0. -/
  err    : Option ErrCode
  /-- STATUS.WBUSY, R15. -/
  wbusy  : Bool
  /-- CMD, R16. -/
  cmd    : Word
  /-- SRC, R17. -/
  src    : Word
  /-- DST, R17. -/
  dst    : Word
  /-- LEN, R17. -/
  len    : Word
  /-- OUTLEN, R18. -/
  outlen : Word
  /-- CHK, R19. -/
  chk    : Checks
  /-- CHKREF, R20. -/
  chkref : Checks
  /-- CRCCFG, R21. -/
  crccfg : CrcCfg
  /-- G1CFG, R22. -/
  g1cfg  : G1Cfg
  /-- XLAT.X, R23. -/
  xlatX  : Byte
  /-- KEY, R25. -/
  key    : Vector Byte 32
  /-- RKEY, R26. -/
  rkey   : Vector Byte 32
  /-- IV, R27. -/
  iv     : Vector Byte 16
  /-- IVENC, R27. -/
  ivenc  : Vector Byte 16
  /-- SUM, R28. -/
  sum    : Vector Byte 16
  /-- DIGEST, R28. -/
  digest : Vector Byte 16
  /-- REF, R29. -/
  ref    : Vector Byte 16
  /-- UUID, R29. -/
  uuid   : Vector Byte 16
  /-- SUMB, R30. -/
  sumb   : Vector Byte 32
  /-- BUF, R31. -/
  buf    : Memory
  /-- The hidden MD5 context M, R32. -/
  md5    : Md5Context
  /-- PEND, R33; valid exactly while BUSY = 1. -/
  pend   : Option Pending
  /-- The level of the pin PRESETn, R36, R160. -/
  presetn  : Bool
  /-- The turns still to come, the first of them next (log entry 1). -/
  schedule : List Turn
  /-- PRDATA and PSLVERR of the last transfer, R36 (log entry 11). -/
  resp     : Option BusResponse
  /-- How many free values have been drawn (log entry 12). -/
  draws    : Nat
deriving DecidableEq, Repr

/-- Why a step can stop with a fault. -/
inductive Fault where
  /-- Raised by a meaning run in a state that holds no pending command: the engine has no step while BUSY = 0
  (R61). `step` never does so. Safe: the model stops where the machine has no such event (log entry 14). -/
  | noCommand
deriving DecidableEq, Repr

/-- Why a step can be refused. -/
inductive Refusal where
  /-- Raised by the arm of an instruction that has no meaning yet; no arm does. Safe: nothing is claimed of it. -/
  | notModelled (mnemonic : String)
deriving DecidableEq, Repr

/-- CTRL after reset (R35). -/
def Ctrl.reset : Ctrl := ⟨false, false, false⟩

/-- CHK and CHKREF after reset (R35). -/
def Checks.reset : Checks := ⟨0, 0, 0, 0⟩

/-- CRCCFG after reset: 0x00000007 (R35). -/
def CrcCfg.reset : CrcCfg := ⟨0x07, 0x00, 0x00, false, false⟩

/-- G1CFG after reset: 0x00000009 (R35). -/
def G1Cfg.reset : G1Cfg := ⟨true, false, false, true, false⟩

/-- M_init of R92, which is M after reset (R35). -/
def Md5Context.init : Md5Context := ⟨⟨0x67452301, 0xEFCDAB89, 0x98BADCFE, 0x10325476⟩, 0, []⟩

/-- BUF after power-on: the default build, nothing written (R31, R160). -/
def Memory.powerOn : Memory := ⟨Config.defaultBufSize, []⟩

/-- The machine right after the power-on reset: the table of 10_state.md R35. PRESETn is high, no turn is waiting, no
transfer has been answered and no free value drawn. -/
def State.reset : State where
  ctrl := Ctrl.reset
  done := false
  err := none
  wbusy := false
  cmd := 0
  src := 0
  dst := 0
  len := 0
  outlen := 0
  chk := Checks.reset
  chkref := Checks.reset
  crccfg := CrcCfg.reset
  g1cfg := G1Cfg.reset
  xlatX := 0
  key := Vector.replicate 32 0
  rkey := Vector.replicate 32 0
  iv := Vector.replicate 16 0
  ivenc := Vector.replicate 16 0
  sum := Vector.replicate 16 0
  digest := Vector.replicate 16 0
  ref := Vector.replicate 16 0
  uuid := Vector.replicate 16 0
  sumb := Vector.replicate 32 0
  buf := Memory.powerOn
  md5 := Md5Context.init
  pend := none
  presetn := true
  schedule := []
  resp := none
  draws := 0

end Sys2Proof.Machine
end

