-- ==== Sys2Proof/Machine/Ops.lean ====
section
/-! DEFINITION. The shared operations over the state: reading and writing BUF, issuing a command, completing it (which is
how an error is taken, R131), acknowledging it (R142), and the register updates the meanings use. -/

namespace Sys2Proof.Machine

/-! ### BUF (10_state.md R31, 00_scope.md R8, 40_control.md R63) -/

/-- The byte written last at an address, if any was. -/
def cellsGet : List Host.Cell → Nat → Option Byte
  | [], _ => none
  | (k, v) :: rest, a => if k = a then some v else cellsGet rest a

/-- Writes one cell, keeping the addresses strictly rising. -/
def cellsSet : List Host.Cell → Nat → Byte → List Host.Cell
  | [], a, v => [(a, v)]
  | (k, w) :: rest, a, v =>
    if a < k then (a, v) :: (k, w) :: rest
    else if a = k then (a, v) :: rest
    else (k, w) :: cellsSet rest a v

/-- What byte `a` of BUF reads as: the byte written last, or the byte that power-on left there (R31, R160). -/
def Memory.read (m : Memory) (a : Nat) : Byte := (cellsGet m.cells a).getD (Config.powerOnByte a)

/-- `BUF[a] <- v`. -/
def Memory.write (m : Memory) (a : Nat) (v : Byte) : Memory := { m with cells := cellsSet m.cells a v }

/-- `MemRead(off, n)` of R8: `BUF[off : off+n)`. -/
def Memory.readBytes (m : Memory) (off n : Nat) : List Byte := (List.range n).map fun k => m.read (off + k)

/-- `MemWrite(off, n, v)` of R8 with `n = len(v)`: `BUF[off+k] <- v[k]`, `k` upward. -/
def Memory.writeBytes (m : Memory) (off : Nat) : List Byte → Memory
  | [] => m
  | v :: rest => (m.write off v).writeBytes (off + 1) rest

/-- BUF is legal: its size is a legal build value (R7: a multiple of 16 from 16 to 4096), the written addresses are
strictly rising, and each is below the size. -/
def Memory.wf (m : Memory) : Bool :=
  (16 ≤ m.size && m.size ≤ 4096 && m.size % 16 == 0) &&
  decide (m.cells.Pairwise fun x y => x.1 < y.1) && m.cells.all fun x => decide (x.1 < m.size)

/-- `InBounds(off, n)` of R63, in exact integers. -/
def Memory.inBounds (m : Memory) (off n : Nat) : Bool := decide (off + n ≤ m.size)

/-! ### Issue, completion, acknowledgement (40_control.md R60, R61; 60_exceptions.md R131, R142) -/

/-- STATUS.BUSY: a command is pending (R15, R33). -/
def State.busy (s : State) : Bool := s.pend.isSome

/-- Issue of a command word: the whole effect of an accepted CMD write (R60). -/
def State.issue (s : State) (d : Word) : State :=
  { s with cmd := d, pend := some ⟨d, s.src, s.dst, s.len⟩, done := false, err := none }

/-- Completion of the pending command with an error code or with NONE (R61). With a code, this is all of taking an
error: there is no vector and no saved register (R131). With NONE, ERR is 0 at completion (R65, R83). -/
def State.complete (s : State) (code : Option ErrCode) : State :=
  { s with pend := none, done := true, err := code }

/-- The acknowledgement, a write of `d` to STATUS: bit 1 clears DONE, bit 2 clears ERR and ERRCODE, bit 3 clears WBUSY;
a 0 leaves its bits as they are (R38, R142). This is the CLE's form of a return from an error. -/
def State.acknowledge (s : State) (d : Word) : State :=
  { s with
    done := if d[1] then false else s.done
    err := if d[2] then none else s.err
    wbusy := if d[3] then false else s.wbusy }

/-! ### Register updates of the commands -/

/-- `OUTLEN <- n` (R18). -/
def State.setOutlen (s : State) (n : Nat) : State := { s with outlen := BitVec.ofNat 32 n }

/-- `CHK.CRC <- c`, the other fields kept (R19, R83). -/
def State.setChkCrc (s : State) (c : Byte) : State := { s with chk := { s.chk with crc := c } }

/-- `CHK.LRC <- l`, the other fields kept (R19, R85). -/
def State.setChkLrc (s : State) (l : Byte) : State := { s with chk := { s.chk with lrc := l } }

/-- `CHK.G1 <- g1 ; CHK.LRC <- l ; CHK.G2 <- g2`, CHK.CRC kept (R19, R86). -/
def State.setChkG (s : State) (g1 l g2 : Byte) : State :=
  { s with chk := { s.chk with g1 := g1, lrc := l, g2 := g2 } }

/-- `RKEY <- v` (R26). -/
def State.setRkey (s : State) (v : Vector Byte 32) : State := { s with rkey := v }

/-- `IV <- v` (R27). -/
def State.setIv (s : State) (v : Vector Byte 16) : State := { s with iv := v }

/-- `IVENC <- v` (R27). -/
def State.setIvenc (s : State) (v : Vector Byte 16) : State := { s with ivenc := v }

/-- `SUM <- v` (R28). -/
def State.setSum (s : State) (v : Vector Byte 16) : State := { s with sum := v }

/-- `DIGEST <- v` (R28). -/
def State.setDigest (s : State) (v : Vector Byte 16) : State := { s with digest := v }

/-- `SUMB <- v` (R30). -/
def State.setSumb (s : State) (v : Vector Byte 32) : State := { s with sumb := v }

/-- `M <- m` (R32). -/
def State.setMd5 (s : State) (m : Md5Context) : State := { s with md5 := m }

/-- `BUF <- m` (R31). -/
def State.setBuf (s : State) (m : Memory) : State := { s with buf := m }

end Sys2Proof.Machine
end

