-- ==== Sys2Proof/Machine/Flags.lean ====
section
/-! DEFINITION. The flags and the register words the host reads: the STATUS flags and ERRCODE (10_state.md R15, R34;
60_exceptions.md R130), the IRQ output (R144), and the multi-field registers packed and unpacked at their bit positions
(R14, R19 to R23). -/

namespace Sys2Proof.Machine

/-- A bit as a word with that bit at position 0. -/
def bitWord (b : Bool) : Word := if b then 1 else 0

/-- A byte as a word with that byte in bits 7:0. -/
def byteWord (b : Byte) : Word := b.setWidth 32

/-- The numeric error codes (R130). -/
def ErrCode.code : ErrCode → BitVec 4
  | .illegalCommand => 1
  | .bounds => 2
  | .cipherLenWrong => 3
  | .paddingWrong => 4
  | .ivCheckError => 5
  | .checksumWrong => 6

/-- STATUS.ERR (R15). -/
def State.errFlag (s : State) : Bool := s.err.isSome

/-- STATUS.ERRCODE: 0 when ERR = 0 (R15, R130). -/
def State.errcode (s : State) : BitVec 4 := (s.err.map ErrCode.code).getD 0

/-- The IRQ output: `CTRL.IRQEN AND STATUS.DONE`, recomputed from those two bits (R144; log entry 17). -/
def State.irq (s : State) : Bool := s.ctrl.irqen && s.done

/-- CTRL as read: bit 31 reads 0 (R14, R39). -/
def Ctrl.toWord (c : Ctrl) : Word := bitWord c.role ||| bitWord c.hexlc <<< 1 ||| bitWord c.irqen <<< 2

/-- `CTRL[2:0] <- d[2:0]` (R14, R38). -/
def Ctrl.ofWord (d : Word) : Ctrl := ⟨d[0], d[1], d[2]⟩

/-- STATUS as read (R15). -/
def State.statusWord (s : State) : Word :=
  bitWord s.busy ||| bitWord s.done <<< 1 ||| bitWord s.errFlag <<< 2 ||| bitWord s.wbusy <<< 3 |||
  (s.errcode.setWidth 32) <<< 8

/-- CHK and CHKREF as read: CRC, G1, LRC, G2 from the low byte up (R19, R20). -/
def Checks.toWord (c : Checks) : Word := wordOfBytes c.crc c.g1 c.lrc c.g2

/-- CHKREF's fields from a word (R20). -/
def Checks.ofWord (d : Word) : Checks := ⟨lane d 0, lane d 1, lane d 2, lane d 3⟩

/-- CRCCFG as read (R21). -/
def CrcCfg.toWord (c : CrcCfg) : Word :=
  byteWord c.poly ||| byteWord c.init <<< 8 ||| byteWord c.xorout <<< 16 |||
  bitWord c.refin <<< 24 ||| bitWord c.refout <<< 25

/-- CRCCFG's fields from a word; bits 31:26 are ignored (R21, R38). -/
def CrcCfg.ofWord (d : Word) : CrcCfg := ⟨lane d 0, lane d 1, lane d 2, d[24], d[25]⟩

/-- G1CFG as read (R22). -/
def G1Cfg.toWord (c : G1Cfg) : Word :=
  bitWord c.r0OddNot ||| bitWord c.r0EvenNot <<< 1 ||| bitWord c.r1OddNot <<< 2 ||| bitWord c.r1EvenNot <<< 3 |||
  bitWord c.gprev0 <<< 8

/-- G1CFG's fields from a word; bits 7:4 and 31:9 are ignored (R22, R38). -/
def G1Cfg.ofWord (d : Word) : G1Cfg := ⟨d[0], d[1], d[2], d[3], d[8]⟩

/-- XLAT as read: `parity8(X) << 24 | brev8(X) << 16 | gray8(X) << 8 | X` (R23, R74). -/
def xlatWord (x : Byte) : Word :=
  bitWord (parity8 x) <<< 24 ||| byteWord (brev8 x) <<< 16 ||| byteWord (gray8 x) <<< 8 ||| byteWord x

end Sys2Proof.Machine
end

