-- ==== Sys2Proof/Machine/Operands.lean ====
section
/-! DEFINITION. How a command gets its operands: the fetch of the latched word, the operands latched at issue (R33,
R55), source and destination regions of BUF with their checks (R62, R63), the length rules of the AES commands (R119,
R120), and the byte lanes of a word written with strobes (R24, R38). -/

namespace Sys2Proof.Machine

/-- The fetch of the CLE: the decoding of the latched word, done at completion (R53). `none` while BUSY = 0. -/
def State.fetch (s : State) : Option (Except DecodeError Instr) := s.pend.map fun p => decode p.word

/-- The SRC operand, an exact unsigned integer (R55). -/
def Pending.srcOff (p : Pending) : Nat := p.src.toNat

/-- The DST operand, an exact unsigned integer (R55). -/
def Pending.dstOff (p : Pending) : Nat := p.dst.toNat

/-- The LEN operand, an exact unsigned integer (R55). -/
def Pending.length (p : Pending) : Nat := p.len.toNat

/-- The shape of every meaning: run on the latched operands, then complete with the code it answers (R61, R69). The
inputs are read from `s`, before any output is written (R64). Without a pending command there is no step. -/
def withCommand (s : State) (run : Pending → State × Option ErrCode) : Host.Outcome State Fault Refusal :=
  match s.pend with
  | none => .fault .noCommand
  | some p => .next ((run p).1.complete (run p).2)

/-- A command with the source region `(SRC, LEN)`: BOUNDS when the region is not in BUF, with no other effect (R63,
R133); else the command on the region's bytes. -/
def withSource (s : State) (p : Pending) (run : List Byte → State × Option ErrCode) : State × Option ErrCode :=
  if s.buf.inBounds p.srcOff p.length then run (s.buf.readBytes p.srcOff p.length) else (s, some .bounds)

/-- The output length of AES_CBC_ENC (R119): with PAD the next multiple of 16 above `n`, else `n`. -/
def encOutLen (pad : Bool) (n : Nat) : Nat := if pad then n + 16 - n % 16 else n

/-- The checks of AES_CBC_ENC in their order: length, source region, destination region (R62, R119). -/
def encCheck (m : Memory) (pad : Bool) (p : Pending) : Option ErrCode :=
  if pad = false ∧ p.length % 16 ≠ 0 then some .cipherLenWrong
  else if m.inBounds p.srcOff p.length = false then some .bounds
  else if m.inBounds p.dstOff (encOutLen pad p.length) = false then some .bounds
  else none

/-- The checks of AES_CBC_DEC in their order: length, source region, destination region (R62, R120). -/
def decCheck (m : Memory) (p : Pending) : Option ErrCode :=
  if p.length = 0 ∨ p.length % 16 ≠ 0 then some .cipherLenWrong
  else if m.inBounds p.srcOff p.length = false then some .bounds
  else if m.inBounds p.dstOff p.length = false then some .bounds
  else none

/-- The destination region `(off, n)` of a latched command, as an abort sees it (R161): that of an AES command whose
checks pass; every other command writes no BUF byte (log entry 6). -/
def destRegion (m : Memory) (p : Pending) : Option (Nat × Nat) :=
  match decode p.word with
  | .ok (.aesCbcEnc pad) =>
    if encCheck m pad p = none then some (p.dstOff, encOutLen pad p.length) else none
  | .ok (.aesCbcDec _) => if decCheck m p = none then some (p.dstOff, p.length) else none
  | _ => none

/-! ### Words of byte arrays, and strobes (R24, R38, R44) -/

/-- Word `j` of a byte-array register: `NAME[4j] | NAME[4j+1] << 8 | NAME[4j+2] << 16 | NAME[4j+3] << 24` (R24). -/
def arrayWord {n : Nat} (v : Vector Byte n) (j : Nat) : Word :=
  wordOfBytes ((v[4 * j]?).getD 0) ((v[4 * j + 1]?).getD 0) ((v[4 * j + 2]?).getD 0) ((v[4 * j + 3]?).getD 0)

/-- A write of word `j` of a byte-array register with strobes: byte `4j + b` takes lane `b` where `strb[b]` is set
(R24, R38). -/
def arrayWrite {n : Nat} (v : Vector Byte n) (j : Nat) (d : Word) (strb : BitVec 4) : Vector Byte n :=
  Vector.ofFn fun i => if i.val / 4 = j ∧ strb.getLsbD (i.val % 4) = true then lane d (i.val % 4) else v[i]

/-- The lanes of `d` that `strb` selects, the other lanes from `old` (R38). -/
def mergeLanes (old d : Word) (strb : BitVec 4) : Word :=
  let pick (b : Nat) : Byte := if strb.getLsbD b then lane d b else lane old b
  wordOfBytes (pick 0) (pick 1) (pick 2) (pick 3)

/-- A write of the buffer-window word at offset `k` with strobes: `BUF[k+b]` takes lane `b` where `strb[b]` is set
(R41). -/
def Memory.writeLanes (m : Memory) (k : Nat) (d : Word) (strb : BitVec 4) : Memory :=
  (List.range 4).foldl (fun m b => if strb.getLsbD b then m.write (k + b) (lane d b) else m) m

/-- The buffer-window word at offset `k` (R41). -/
def Memory.readWord (m : Memory) (k : Nat) : Word :=
  wordOfBytes (m.read k) (m.read (k + 1)) (m.read (k + 2)) (m.read (k + 3))

end Sys2Proof.Machine
end

