-- ==== Sys2Proof/Machine/Bus.lean ====
section
/-! DEFINITION. The register bus (20_memory.md R36 to R46): the register map (10_state.md R12), bus errors (R37), write
and read handling (R38, R39), and the two resets (70_reset_and_hazards.md R160, R161). -/

namespace Sys2Proof.Machine

/-! ### The register map (R12) -/

/-- The byte-array registers of R12. -/
inductive ArrayReg where
  | key
  | rkey
  | iv
  | ivenc
  | sum
  | digest
  | ref
  | uuid
  | sumb
deriving DecidableEq, Repr

/-- What a word-aligned offset of the window names (R12): a register, word `j` of a byte array, the buffer-window word
at BUF offset `k`, or reserved space. -/
inductive Target where
  | id
  | ctrl
  | status
  | cmd
  | src
  | dst
  | len
  | outlen
  | chk
  | chkref
  | crccfg
  | g1cfg
  | xlat
  | array (r : ArrayReg) (j : Nat)
  | buf (k : Nat)
  | reserved
deriving DecidableEq, Repr

/-- The registers below the byte arrays, 0x000 to 0x03C (R12). -/
def controlTarget (a : Nat) : Target :=
  match a with
  | 0x00 => .id
  | 0x04 => .ctrl
  | 0x08 => .status
  | 0x0C => .cmd
  | 0x10 => .src
  | 0x14 => .dst
  | 0x18 => .len
  | 0x1C => .outlen
  | 0x20 => .chk
  | 0x24 => .chkref
  | 0x28 => .crccfg
  | 0x2C => .g1cfg
  | 0x30 => .xlat
  | _ => .reserved

/-- The target of a word-aligned offset, for a buffer of `size` bytes (R12, R41). -/
def targetOf (size a : Nat) : Target :=
  if a < 0x040 then controlTarget a
  else if a < 0x060 then .array .key ((a - 0x040) / 4)
  else if a < 0x080 then .array .rkey ((a - 0x060) / 4)
  else if a < 0x090 then .array .iv ((a - 0x080) / 4)
  else if a < 0x0A0 then .array .ivenc ((a - 0x090) / 4)
  else if a < 0x0B0 then .array .sum ((a - 0x0A0) / 4)
  else if a < 0x0C0 then .array .digest ((a - 0x0B0) / 4)
  else if a < 0x0D0 then .array .ref ((a - 0x0C0) / 4)
  else if a < 0x0E0 then .array .uuid ((a - 0x0D0) / 4)
  else if a < 0x100 then .array .sumb ((a - 0x0E0) / 4)
  else if 0x1000 ≤ a ∧ a - 0x1000 < size then .buf (a - 0x1000)
  else .reserved

/-- The target a bus address names in a state. -/
def State.target (s : State) (a : Addr) : Target := targetOf s.buf.size a.toNat

/-! ### Bus errors (R37) -/

/-- A misaligned address (R37, R43). -/
def misaligned (a : Addr) : Bool := a.toNat % 4 != 0

/-- The registers whose writes need all four strobes (R37): CTRL, STATUS, CMD and XLAT. -/
def Target.wholeWord : Target → Bool
  | .ctrl | .status | .cmd | .xlat => true
  | _ => false

/-- Whether a transfer completes with PSLVERR = 1 (R37). -/
def State.busError (s : State) : Transfer → Bool
  | .read a _ => misaligned a
  | .write a _ strb _ => misaligned a || ((s.target a).wholeWord && strb != 0xF)

/-! ### Resets (R35, R160, R161) -/

/-- `n` unspecified bytes, fresh draws from number `k` on (log entry 5). -/
def freshBytes (k n : Nat) : List Byte := (List.range n).map fun i => Config.unspecByte (k + i)

/-- Every register and hidden state at its value of R35. BUF, the pin, the waiting turns, the last answer and the draw
counter are not among them. -/
def State.resetRegisters (s : State) : State :=
  { State.reset with
    buf := s.buf
    presetn := s.presetn
    schedule := s.schedule
    resp := s.resp
    draws := s.draws }

/-- The abort of a pending command: each byte of its destination region becomes unspecified (R161). -/
def State.abort (s : State) : State :=
  match s.pend.bind (destRegion s.buf) with
  | some (off, n) => { s with buf := s.buf.writeBytes off (freshBytes s.draws n), draws := s.draws + n }
  | none => s

/-- `soft_reset()` of R161; a hardware reset with power kept does the same (R160). -/
def State.resetKeepingBuf (s : State) : State := s.abort.resetRegisters

/-- A change of the pin PRESETn (R160): driven low, and at the edge after it rises, every register takes its reset
value. A high level that stays high does nothing (log entry 10). -/
def State.drivePresetn (s : State) (level : Bool) : State :=
  if level = true ∧ s.presetn = true then s else { s.resetKeepingBuf with presetn := level }

/-! ### Writes (R38) -/

/-- A write of a word of a byte-array register; DIGEST is read-only (R28, R38). -/
def State.writeArray (s : State) (r : ArrayReg) (j : Nat) (d : Word) (strb : BitVec 4) : State :=
  match r with
  | .key => { s with key := arrayWrite s.key j d strb }
  | .rkey => { s with rkey := arrayWrite s.rkey j d strb }
  | .iv => { s with iv := arrayWrite s.iv j d strb }
  | .ivenc => { s with ivenc := arrayWrite s.ivenc j d strb }
  | .sum => { s with sum := arrayWrite s.sum j d strb }
  | .digest => s
  | .ref => { s with ref := arrayWrite s.ref j d strb }
  | .uuid => { s with uuid := arrayWrite s.uuid j d strb }
  | .sumb => { s with sumb := arrayWrite s.sumb j d strb }

/-- The `case a of` of R38: a write accepted while BUSY = 0. The read-only and the reserved targets take nothing;
STATUS is accepted before this point (`writeTransfer`). -/
def State.storeRegister (s : State) (t : Target) (d : Word) (strb : BitVec 4) : State :=
  match t with
  | .ctrl => { s with ctrl := Ctrl.ofWord d }
  | .cmd => s.issue d
  | .xlat => { s with xlatX := lane d 0 }
  | .src => { s with src := mergeLanes s.src d strb }
  | .dst => { s with dst := mergeLanes s.dst d strb }
  | .len => { s with len := mergeLanes s.len d strb }
  | .chkref => { s with chkref := Checks.ofWord (mergeLanes s.chkref.toWord d strb) }
  | .crccfg => { s with crccfg := CrcCfg.ofWord (mergeLanes s.crccfg.toWord d strb) }
  | .g1cfg => { s with g1cfg := G1Cfg.ofWord (mergeLanes s.g1cfg.toWord d strb) }
  | .array r j => s.writeArray r j d strb
  | .buf k => { s with buf := s.buf.writeLanes k d strb }
  | .id | .status | .outlen | .chk | .reserved => s

/-- `Write(a, d, strb)` of R38, in its order of precedence. -/
def State.writeTransfer (s : State) (a : Addr) (d : Word) (strb : BitVec 4) : State :=
  let t := s.target a
  if misaligned a || (t.wholeWord && strb != 0xF) then s
  else if t = .ctrl ∧ d[31] = true then s.resetKeepingBuf
  else if t = .status then s.acknowledge d
  else if s.busy then { s with wbusy := true }
  else s.storeRegister t d strb

/-! ### Reads (R39) -/

/-- The current contents of a byte-array word (R24). -/
def State.arrayWordOf (s : State) (r : ArrayReg) (j : Nat) : Word :=
  match r with
  | .key => arrayWord s.key j
  | .rkey => arrayWord s.rkey j
  | .iv => arrayWord s.iv j
  | .ivenc => arrayWord s.ivenc j
  | .sum => arrayWord s.sum j
  | .digest => arrayWord s.digest j
  | .ref => arrayWord s.ref j
  | .uuid => arrayWord s.uuid j
  | .sumb => arrayWord s.sumb j

/-- The current contents of a target (R12 to R24, R41). -/
def State.readTarget (s : State) (t : Target) : Word :=
  match t with
  | .id => Config.idWord
  | .ctrl => s.ctrl.toWord
  | .status => s.statusWord
  | .cmd => s.cmd
  | .src => s.src
  | .dst => s.dst
  | .len => s.len
  | .outlen => s.outlen
  | .chk => s.chk.toWord
  | .chkref => s.chkref.toWord
  | .crccfg => s.crccfg.toWord
  | .g1cfg => s.g1cfg.toWord
  | .xlat => xlatWord s.xlatX
  | .array r j => s.arrayWordOf r j
  | .buf k => s.buf.readWord k
  | .reserved => 0

/-- The targets whose reads are unspecified while BUSY = 1 (R39). -/
def Target.engineOwned : Target → Bool
  | .outlen | .chk | .array _ _ | .buf _ => true
  | _ => false

/-- `Read(a)` of R39: PRDATA, and the state, which only the count of free values drawn distinguishes from the state
before. An erroring read returns 0 (R37). -/
def State.readTransfer (s : State) (a : Addr) : Word × State :=
  if misaligned a then (0, s)
  else if s.busy && (s.target a).engineOwned then (Config.unspecWord s.draws, { s with draws := s.draws + 1 })
  else (s.readTarget (s.target a), s)

/-! ### One transfer -/

/-- A transfer made while PRESETn = 0 is ignored, and read data is undefined (R160; PSLVERR by R37, log entry 9). -/
def State.ignoredTransfer (s : State) (x : Transfer) : State :=
  match x with
  | .write _ _ _ _ => { s with resp := some (.wrote (s.busError x)) }
  | .read _ _ =>
    { s with resp := some (.read (Config.unspecWord s.draws) (s.busError x)), draws := s.draws + 1 }

/-- One host transfer, an atomic action (R36, R44): its effect, and the slave's answer. -/
def State.transfer (s : State) (x : Transfer) : State :=
  if s.presetn = false then s.ignoredTransfer x
  else match x with
    | .write a d strb _ => { s.writeTransfer a d strb with resp := some (.wrote (s.busError x)) }
    | .read a _ =>
      let r := s.readTransfer a
      { r.2 with resp := some (.read r.1 (s.busError x)) }

end Sys2Proof.Machine
end

