-- ==== Sys2Proof/Machine/Aes.lean ====
section
/-! DEFINITION. The AES family (45_aes_cbc_pkcs7.md): AES-256 (R110 to R116), CBC and the padding functions (R117,
R118), and the commands AES_CBC_ENC and AES_CBC_DEC (R119, R120). -/

namespace Sys2Proof.Machine

/-! ### Field arithmetic and S-boxes -/

/-- `xtime` of R111. -/
def xtime (a : Byte) : Byte := (a <<< 1) ^^^ (if a[7] then 0x1B else 0)

/-- The XOR of `xtime^k(a)` over the set bits `k` of `b` below `n`. -/
def gfMulBits : Nat → Byte → Byte → Byte
  | 0, _, _ => 0
  | n + 1, a, b => (if b[0] then a else 0) ^^^ gfMulBits n (xtime a) (b >>> 1)

/-- The product `a • b` of R111. -/
def gfMul (a b : Byte) : Byte := gfMulBits 8 a b

/-- The rows of the S-box table of R112: row `r` holds `SBOX[16r .. 16r+15]`, the first entry in the high byte. -/
def sboxRows : List (BitVec 128) :=
  [0x637C777BF26B6FC53001672BFED7AB76,
   0xCA82C97DFA5947F0ADD4A2AF9CA472C0,
   0xB7FD9326363FF7CC34A5E5F171D83115,
   0x04C723C31896059A071280E2EB27B275,
   0x09832C1A1B6E5AA0523BD6B329E32F84,
   0x53D100ED20FCB15B6ACBBE394A4C58CF,
   0xD0EFAAFB434D338545F9027F503C9FA8,
   0x51A3408F929D38F5BCB6DA2110FFF3D2,
   0xCD0C13EC5F974417C4A77E3D645D1973,
   0x60814FDC222A908846EEB814DE5E0BDB,
   0xE0323A0A4906245CC2D3AC629195E479,
   0xE7C8376D8DD54EA96C56F4EA657AAE08,
   0xBA78252E1CA6B4C6E8DD741F4BBD8B8A,
   0x703EB5664803F60E613557B986C11D9E,
   0xE1F8981169D98E949B1E87E9CE5528DF,
   0x8CA1890DBFE6426841992D0FB054BB16]

/-- The rows of the inverse S-box table of R113, laid out as those of the S-box. -/
def invSboxRows : List (BitVec 128) :=
  [0x52096AD53036A538BF40A39E81F3D7FB,
   0x7CE339829B2FFF87348E4344C4DEE9CB,
   0x547B9432A6C2233DEE4C950B42FAC34E,
   0x082EA16628D924B2765BA2496D8BD125,
   0x72F8F66486689816D4A45CCC5D65B692,
   0x6C704850FDEDB9DA5E154657A78D9D84,
   0x90D8AB008CBCD30AF7E45805B8B34506,
   0xD02C1E8FCA3F0F02C1AFBD0301138A6B,
   0x3A9111414F67DCEA97F2CFCEF0B4E673,
   0x96AC7422E7AD3585E2F937E81C75DF6E,
   0x47F11A711D29C5896FB7620EAA18BE1B,
   0xFC563E4BC6D279209ADBC0FE78CD5AF4,
   0x1FDDA8338807C731B11210592780EC5F,
   0x60517FA919B54A0D2DE57A9F93C99CEF,
   0xA0E03B4DAE2AF5B0C8EBBB3C83539961,
   0x172B047EBA77D626E169146355210C7D]
/-- Entry `x` of a table of sixteen rows of sixteen bytes. -/
def tableEntry (rows : List (BitVec 128)) (x : Byte) : Byte :=
  (rows.getD (x.toNat / 16) 0).extractLsb' (8 * (15 - x.toNat % 16)) 8

/-- `SBOX[x]` (R112). -/
def sbox (x : Byte) : Byte := tableEntry sboxRows x

/-- `INV_SBOX[x]` (R113). -/
def invSbox (x : Byte) : Byte := tableEntry invSboxRows x

/-- The affine map `A` of R112: bit `i` is `b[i] XOR b[i+4] XOR b[i+5] XOR b[i+6] XOR b[i+7] XOR 0x63[i]`, indices modulo 8.
Not used by the cipher, which reads the table; it says what the table is. -/
def sboxAffine (b : Byte) : Byte :=
  b ^^^ b.rotateRight 4 ^^^ b.rotateRight 5 ^^^ b.rotateRight 6 ^^^ b.rotateRight 7 ^^^ 0x63

/-! ### The block cipher -/

/-- A block, and the 4×4 state loaded from it column by column: `s[r][c]` is byte `r + 4c` (R110). -/
abbrev Block := Vector Byte 16

/-- A round-key word (R110). -/
abbrev KeyWord := Vector Byte 4

/-- The byte `s[r][c]` of the state (R110), row and column modulo 4. -/
def stateByte (s : Block) (r c : Nat) : Byte := s[r % 4 + 4 * (c % 4)]'(by omega)

/-- The state whose byte `s[r][c]` is `f r c` (R110). -/
def stateOf (f : Nat → Nat → Byte) : Block := Vector.ofFn fun i => f (i.val % 4) (i.val / 4)

/-- SubBytes (R115). -/
def subBytes (s : Block) : Block := Vector.ofFn fun i => sbox s[i]

/-- InvSubBytes (R116). -/
def invSubBytes (s : Block) : Block := Vector.ofFn fun i => invSbox s[i]

/-- ShiftRows: row `r` rotated left by `r` (R115). -/
def shiftRows (s : Block) : Block := stateOf fun r c => stateByte s r (c + r)

/-- InvShiftRows: row `r` rotated right by `r` (R116). -/
def invShiftRows (s : Block) : Block := stateOf fun r c => stateByte s r (c + 4 - r)

/-- One column product: row `r` of the result is `k0•a_r ^ k1•a_(r+1) ^ k2•a_(r+2) ^ k3•a_(r+3)`, row indices modulo 4.
Every row of the matrices of R115 and R116 is the row above it rotated right by one. -/
def mixWith (k0 k1 k2 k3 : Byte) (s : Block) : Block :=
  stateOf fun r c =>
    gfMul k0 (stateByte s r c) ^^^ gfMul k1 (stateByte s (r + 1) c) ^^^
    gfMul k2 (stateByte s (r + 2) c) ^^^ gfMul k3 (stateByte s (r + 3) c)

/-- MixColumns (R115). -/
def mixColumns (s : Block) : Block := mixWith 2 3 1 1 s

/-- InvMixColumns (R116). -/
def invMixColumns (s : Block) : Block := mixWith 14 11 13 9 s

/-- RotWord (R114). -/
def rotWord (t : KeyWord) : KeyWord := #v[t[1], t[2], t[3], t[0]]

/-- SubWord (R114). -/
def subWord (t : KeyWord) : KeyWord := Vector.ofFn fun i => sbox t[i]

/-- `rc[1..7] = 01 02 04 08 10 20 40` of R114. -/
def rc (j : Nat) : Byte := BitVec.ofNat 8 (2 ^ (j - 1))

/-- `Rcon[j]` (R114). -/
def rcon (j : Nat) : KeyWord := #v[rc j, 0, 0, 0]

/-- The bytewise XOR of two byte arrays. -/
def xorBytes {n : Nat} (a b : Vector Byte n) : Vector Byte n := Vector.ofFn fun i => a[i] ^^^ b[i]

/-- Word `j` of a key schedule; zero past its end, which no round reads. -/
def keyWordAt (w : List KeyWord) (j : Nat) : KeyWord := w.getD j (Vector.replicate 4 0)

/-- The key-schedule word `w[j]`, for `j` from 8 to 59, from the words before it (R114). -/
def nextKeyWord (w : List KeyWord) (j : Nat) : KeyWord :=
  let t := keyWordAt w (j - 1)
  let t := if j % 8 = 0 then xorBytes (subWord (rotWord t)) (rcon (j / 8))
    else if j % 8 = 4 then subWord t
    else t
  xorBytes (keyWordAt w (j - 8)) t

/-- `w[0..7]`: the key's own words (R110, R114). -/
def firstKeyWords (key : Vector Byte 32) : List KeyWord :=
  (List.range 8).map fun j => Vector.ofFn fun t => (key[4 * j + t.val]?).getD 0

/-- The 60 words of the key schedule (R114). -/
def expandKey (key : Vector Byte 32) : List KeyWord :=
  (List.range' 8 52).foldl (fun w j => w ++ [nextKeyWord w j]) (firstKeyWords key)

/-- AddRoundKey with round key `r`: `s[i][c] XOR w[4r + c][i]` (R115). -/
def addRoundKey (w : List KeyWord) (r : Nat) (s : Block) : Block :=
  stateOf fun i c => stateByte s i c ^^^ (keyWordAt w (4 * r + c))[i % 4]'(by omega)

/-- Round `r`, 1 to 13, of the cipher (R115). -/
def encRound (w : List KeyWord) (s : Block) (r : Nat) : Block :=
  addRoundKey w r (mixColumns (shiftRows (subBytes s)))

/-- Round `r`, 13 down to 1, of the inverse cipher (R116). -/
def decRound (w : List KeyWord) (s : Block) (r : Nat) : Block :=
  invMixColumns (addRoundKey w r (invSubBytes (invShiftRows s)))

/-- The rounds 1 to 13 in the cipher's order (R115). -/
def innerRounds : List Nat := List.range' 1 13

/-- `AES_E` with an expanded key (R115). -/
def encryptBlock (w : List KeyWord) (x : Block) : Block :=
  addRoundKey w 14 (shiftRows (subBytes (innerRounds.foldl (encRound w) (addRoundKey w 0 x))))

/-- `AES_D` with an expanded key (R116). -/
def decryptBlock (w : List KeyWord) (x : Block) : Block :=
  addRoundKey w 0 (invSubBytes (invShiftRows (innerRounds.reverse.foldl (decRound w) (addRoundKey w 14 x))))

/-- `AES_E(key, x)` (R115). -/
def aesE (key : Vector Byte 32) (x : Block) : Block := encryptBlock (expandKey key) x

/-- `AES_D(key, x)` (R116). -/
def aesD (key : Vector Byte 32) (x : Block) : Block := decryptBlock (expandKey key) x

/-! ### CBC and padding -/

/-- The block of the first sixteen bytes of a byte string. -/
def blockOfBytes (x : List Byte) : Block := Vector.ofFn fun i => x.getD i.val 0

/-- The first `n` blocks of a byte string (R117). -/
def blocksOf : Nat → List Byte → List Block
  | 0, _ => []
  | n + 1, x => blockOfBytes (x.take 16) :: blocksOf n (x.drop 16)

/-- `C_j = AES_E(key, P_j XOR C_(j-1))`, `prev` the chaining value (R117). -/
def cbcEncBlocks (key : Vector Byte 32) (prev : Block) : List Block → List Block
  | [] => []
  | p :: rest =>
    let c := aesE key (xorBytes p prev)
    c :: cbcEncBlocks key c rest

/-- `P_j = AES_D(key, C_j) XOR C_(j-1)`, `prev` the chaining value (R117). -/
def cbcDecBlocks (key : Vector Byte 32) (prev : Block) : List Block → List Block
  | [] => []
  | c :: rest => xorBytes (aesD key c) prev :: cbcDecBlocks key c rest

/-- The bytes of a list of blocks. -/
def bytesOfBlocks (bs : List Block) : List Byte := bs.flatMap fun b => b.toList

/-- `cbc_enc(key, iv, P)` of R117, for a byte string of whole blocks. -/
def cbcEnc (key : Vector Byte 32) (iv : Block) (x : List Byte) : List Byte :=
  bytesOfBlocks (cbcEncBlocks key iv (blocksOf (x.length / 16) x))

/-- `cbc_dec(key, iv, C)` of R117, for a byte string of whole blocks. -/
def cbcDec (key : Vector Byte 32) (iv : Block) (y : List Byte) : List Byte :=
  bytesOfBlocks (cbcDecBlocks key iv (blocksOf (y.length / 16) y))

/-- `pad(x)` of R118. -/
def padBytes (x : List Byte) : List Byte :=
  let q := 16 - x.length % 16
  x ++ List.replicate q (BitVec.ofNat 8 q)

/-- `unpad(y)` of R118: how many bytes to drop, or `none` where it fails with PADDING_WRONG. A final byte of 0 is
accepted and drops nothing (90_conflicts.md C6). -/
def unpad (y : List Byte) : Option Nat :=
  let p := (y.getD (y.length - 1) 0).toNat
  if p > 16 then none
  else if (List.range' 1 p).all fun t => (y.getD (y.length - t) 0).toNat == p then some p
  else none

/-! ### Commands -/

/-- AES_CBC_ENC (R119). A failed check sets OUTLEN to 0 and leaves BUF unchanged. -/
def execAesCbcEnc (pad : Bool) (s : State) : Host.Outcome State Fault Refusal :=
  withCommand s fun p =>
    match encCheck s.buf pad p with
    | some e => (s.setOutlen 0, some e)
    | none =>
      let x := s.buf.readBytes p.srcOff p.length
      let x := if pad then padBytes x else x
      ((s.setBuf (s.buf.writeBytes p.dstOff (cbcEnc s.rkey s.iv x))).setOutlen (encOutLen pad p.length), none)

/-- AES_CBC_DEC (R120). On PADDING_WRONG the destination region is zeroed and OUTLEN is 0. -/
def execAesCbcDec (pad : Bool) (s : State) : Host.Outcome State Fault Refusal :=
  withCommand s fun p =>
    match decCheck s.buf p with
    | some e => (s.setOutlen 0, some e)
    | none =>
      let y := cbcDec s.rkey s.iv (s.buf.readBytes p.srcOff p.length)
      let t := s.setBuf (s.buf.writeBytes p.dstOff y)
      if pad = false then (t.setOutlen p.length, none)
      else match unpad y with
        | some q => (t.setOutlen (p.length - q), none)
        | none =>
          ((s.setBuf (s.buf.writeBytes p.dstOff (List.replicate p.length 0))).setOutlen 0, some .paddingWrong)

end Sys2Proof.Machine
end

