-- ==== Sys2Proof/Machine/Checksum.lean ====
section
/-! DEFINITION. The checksum family (42_checksum.md): CRC-8, LRC and the G check code (R80 to R82), and their six
commands (R83 to R88). -/

namespace Sys2Proof.Machine

/-! ### Check functions -/

/-- One shift of the CRC register (R80): the `if r[7] = 1` of the inner loop. -/
def crcShift (poly r : Byte) : Byte := if r[7] then (r <<< 1) ^^^ poly else r <<< 1

/-- `n` shifts of the CRC register. -/
def crcShifts (poly : Byte) : Nat → Byte → Byte
  | 0, r => r
  | n + 1, r => crcShifts poly n (crcShift poly r)

/-- One data byte into the CRC register: reflected first when REFIN = 1, then eight shifts (R80). -/
def crcByte (cfg : CrcCfg) (r b : Byte) : Byte :=
  crcShifts cfg.poly 8 (r ^^^ (if cfg.refin then brev8 b else b))

/-- `crc8(data, cfg)`, the parameterised CRC of R80. -/
def crc8 (cfg : CrcCfg) (data : List Byte) : Byte :=
  let r := data.foldl (crcByte cfg) cfg.init
  (if cfg.refout then brev8 r else r) ^^^ cfg.xorout

/-- The exact-integer sum of a byte string (R81). -/
def byteSum (data : List Byte) : Nat := (data.map BitVec.toNat).sum

/-- `lrc(data)`: the two's-complement negation of the byte sum modulo 256 (R81). -/
def lrc (data : List Byte) : Byte := BitVec.ofNat 8 ((256 - byteSum data % 256) % 256)

/-- The check bits of a byte string in order: bit 3 of each byte XOR the bit before it, starting from `prev` (R82). -/
def gcheckBits (prev : Bool) : List Byte → List Bool
  | [] => []
  | b :: rest => (prev ^^ b[3]) :: gcheckBits b[3] rest

/-- Eight check bits as a byte: check bit `i` at position `7 - i` (R82). -/
def byteOfCheckBits (bits : List Bool) : Byte :=
  bits.foldl (fun acc b => (acc <<< 1) ||| (if b then 1 else 0)) 0

/-- `gcheck(e, gprev0)` of R82: `(g1, g2)`, the running bit chained across the two windows. -/
def gcheck (e : Vector Byte 16) (gprev0 : Bool) : Byte × Byte :=
  let bits := gcheckBits gprev0 e.toList
  (byteOfCheckBits (bits.take 8), byteOfCheckBits (bits.drop 8))

/-! ### Commands -/

/-- CRC8_IVENC (R83). -/
def execCrc8Ivenc (s : State) : Host.Outcome State Fault Refusal :=
  withCommand s fun _ => (s.setChkCrc (crc8 s.crccfg s.ivenc.toList), none)

/-- CRC8_BUF (R84). -/
def execCrc8Buf (s : State) : Host.Outcome State Fault Refusal :=
  withCommand s fun p => withSource s p fun data => (s.setChkCrc (crc8 s.crccfg data), none)

/-- LRC_BUF (R85). -/
def execLrcBuf (s : State) : Host.Outcome State Fault Refusal :=
  withCommand s fun p => withSource s p fun data => (s.setChkLrc (lrc data), none)

/-- The three generation-1 check bytes of IVENC into CHK (R86, R88). -/
def State.withGcheck (s : State) : State :=
  let g := gcheck s.ivenc s.g1cfg.gprev0
  s.setChkG g.1 (lrc s.ivenc.toList) g.2

/-- GCHK_IVENC (R86). -/
def execGchkIvenc (s : State) : Host.Outcome State Fault Refusal :=
  withCommand s fun _ => (s.withGcheck, none)

/-- VERIFY_G0 (R87): CHK.CRC is written whether or not it matches. -/
def execVerifyG0 (s : State) : Host.Outcome State Fault Refusal :=
  withCommand s fun _ =>
    let c := crc8 s.crccfg s.ivenc.toList
    (s.setChkCrc c, if c ≠ s.chkref.crc then some .ivCheckError else none)

/-- VERIFY_G1 (R88): CHK.G1, CHK.LRC and CHK.G2 are written whether or not they match. -/
def execVerifyG1 (s : State) : Host.Outcome State Fault Refusal :=
  withCommand s fun _ =>
    let t := s.withGcheck
    (t, if t.chk.g1 ≠ s.chkref.g1 ∨ t.chk.g2 ≠ s.chkref.g2 then some .ivCheckError
        else if t.chk.lrc ≠ s.chkref.lrc then some .ivCheckError
        else none)

end Sys2Proof.Machine
end

