-- ==== Sys2Proof/Machine/Control.lean ====
section
/-! DEFINITION. The command that does nothing (40_control.md R65). -/

namespace Sys2Proof.Machine

/-- NOP: no data state changes; completion sets DONE (R65). -/
def execNop (s : State) : Host.Outcome State Fault Refusal := withCommand s fun _ => (s, none)

end Sys2Proof.Machine
end

