-- ==== Sys2Proof/Machine/KeyDerivation.lean ====
section
/-! DEFINITION. The key and IV derivation family (44_key_derivation.md): mask material (R101, R102), key derivation
(R103, R104) and IV masking (R105 to R108). Each writes one byte-array register and never fails. -/

namespace Sys2Proof.Machine

/-- `hexchar(v)` of R101 for a nibble `v`: the ASCII hex digit, its letters in the case CTRL.HEXLC selects. -/
def hexchar (hexlc : Bool) (v : Byte) : Byte :=
  if v < 10 then 0x30 + v else if hexlc then 0x61 + (v - 10) else 0x41 + (v - 10)

/-- The 32 hex characters of a 16-byte string, high nibble first (R101). -/
def hexExpand (hexlc : Bool) (sum : Vector Byte 16) : Vector Byte 32 :=
  Vector.ofFn fun i =>
    let b : Byte := sum[i.val / 2]'(by omega)
    hexchar hexlc (if i.val % 2 = 0 then b >>> 4 else b &&& 0x0F)

/-- The UUID interleave of R102: `SUM[i]` at `2i`, `UUID[15 - i]` at `2i + 1`. -/
def uuidInterleave (sum uuid : Vector Byte 16) : Vector Byte 32 :=
  Vector.ofFn fun i => if i.val % 2 = 0 then sum[i.val / 2]'(by omega) else uuid[15 - i.val / 2]'(by omega)

/-- The generation-0 mask of a key byte `k` by a mask byte `s` (R103). -/
def maskG0 (role : Bool) (k s : Byte) : Byte := k ^^^ (if role then ~~~s else s)

/-- Whether the stored-key byte is complemented in the odd-parity branch, by ROLE (R22, R104). -/
def G1Cfg.oddNot (c : G1Cfg) (role : Bool) : Bool := if role then c.r1OddNot else c.r0OddNot

/-- Whether the stored-key byte is complemented in the even-parity branch, by ROLE (R22, R104). -/
def G1Cfg.evenNot (c : G1Cfg) (role : Bool) : Bool := if role then c.r1EvenNot else c.r0EvenNot

/-- The generation-1 substitution of a key byte `k` by a mask byte `s` (R104). -/
def maskG1 (oddNot evenNot : Bool) (k s : Byte) : Byte :=
  if parity8 s then (if oddNot then ~~~k else k) ^^^ gray8 s
  else brev8 (if evenNot then ~~~k else k) ^^^ s

/-- KD_HEX (R101). -/
def execKdHex (s : State) : Host.Outcome State Fault Refusal :=
  withCommand s fun _ => (s.setSumb (hexExpand s.ctrl.hexlc s.sum), none)

/-- KD_UUID (R102). -/
def execKdUuid (s : State) : Host.Outcome State Fault Refusal :=
  withCommand s fun _ => (s.setSumb (uuidInterleave s.sum s.uuid), none)

/-- KD_G0 (R103). -/
def execKdG0 (s : State) : Host.Outcome State Fault Refusal :=
  withCommand s fun _ => (s.setRkey (Vector.ofFn fun i => maskG0 s.ctrl.role s.key[i] s.sumb[i]), none)

/-- KD_G1 (R104). -/
def execKdG1 (s : State) : Host.Outcome State Fault Refusal :=
  withCommand s fun _ =>
    let oddNot := s.g1cfg.oddNot s.ctrl.role
    let evenNot := s.g1cfg.evenNot s.ctrl.role
    (s.setRkey (Vector.ofFn fun i => maskG1 oddNot evenNot s.key[i] s.sumb[i]), none)

/-- IV_MASK_G0 (R105). -/
def execIvMaskG0 (s : State) : Host.Outcome State Fault Refusal :=
  withCommand s fun _ => (s.setIvenc (Vector.ofFn fun i => s.iv[i] ^^^ s.sum[i]), none)

/-- IV_MASK_G1 (R106). -/
def execIvMaskG1 (s : State) : Host.Outcome State Fault Refusal :=
  withCommand s fun _ => (s.setIvenc (Vector.ofFn fun i => ~~~s.iv[i] ^^^ s.sum[i]), none)

/-- IV_UNMASK_G0 (R107). -/
def execIvUnmaskG0 (s : State) : Host.Outcome State Fault Refusal :=
  withCommand s fun _ => (s.setIv (Vector.ofFn fun i => s.ivenc[i] ^^^ s.sum[i]), none)

/-- IV_UNMASK_G1 (R108). -/
def execIvUnmaskG1 (s : State) : Host.Outcome State Fault Refusal :=
  withCommand s fun _ => (s.setIv (Vector.ofFn fun i => ~~~(s.ivenc[i] ^^^ s.sum[i])), none)

end Sys2Proof.Machine
end

