-- ==== Sys2Proof/Machine/Md5.lean ====
section
/-! DEFINITION. The MD5 digest family (43_md5.md): the algorithm of R90 to R92 and the five commands of R93 to R97. -/

namespace Sys2Proof.Machine

/-! ### The algorithm -/

/-- The constants `T[1..64]` of R91; entry `j` of the list is `T[j+1]`. -/
def md5T : List Word :=
  [0xD76AA478, 0xE8C7B756, 0x242070DB, 0xC1BDCEEE, 0xF57C0FAF, 0x4787C62A, 0xA8304613, 0xFD469501,
     0x698098D8, 0x8B44F7AF, 0xFFFF5BB1, 0x895CD7BE, 0x6B901122, 0xFD987193, 0xA679438E, 0x49B40821] ++
    [0xF61E2562, 0xC040B340, 0x265E5A51, 0xE9B6C7AA, 0xD62F105D, 0x02441453, 0xD8A1E681, 0xE7D3FBC8,
     0x21E1CDE6, 0xC33707D6, 0xF4D50D87, 0x455A14ED, 0xA9E3E905, 0xFCEFA3F8, 0x676F02D9, 0x8D2A4C8A] ++
    [0xFFFA3942, 0x8771F681, 0x6D9D6122, 0xFDE5380C, 0xA4BEEA44, 0x4BDECFA9, 0xF6BB4B60, 0xBEBFBC70,
     0x289B7EC6, 0xEAA127FA, 0xD4EF3085, 0x04881D05, 0xD9D4D039, 0xE6DB99E5, 0x1FA27CF8, 0xC4AC5665] ++
    [0xF4292244, 0x432AFF97, 0xAB9423A7, 0xFC93A039, 0x655B59C3, 0x8F0CCC92, 0xFFEFF47D, 0x85845DD1,
     0x6FA87E4F, 0xFE2CE6E0, 0xA3014314, 0x4E0811A1, 0xF7537E82, 0xBD3AF235, 0x2AD7D2BB, 0xEB86D391]

/-- The shift amounts `S[i]` of R91: four per round, each round's four repeated. -/
def md5S (i : Nat) : Nat :=
  ([[7, 12, 17, 22], [5, 9, 14, 20], [4, 11, 16, 23], [6, 10, 15, 21]].getD (i / 16) []).getD (i % 4) 0

/-- The round function `F` of R91. -/
def md5F (i : Nat) (b c d : Word) : Word :=
  if i < 16 then (b &&& c) ||| (~~~b &&& d)
  else if i < 32 then (b &&& d) ||| (c &&& ~~~d)
  else if i < 48 then b ^^^ c ^^^ d
  else c ^^^ (b ||| ~~~d)

/-- The word index `k` of R91. -/
def md5K (i : Nat) : Nat :=
  if i < 16 then i
  else if i < 32 then (5 * i + 1) % 16
  else if i < 48 then (3 * i + 5) % 16
  else (7 * i) % 16

/-- `rotl32` of R8. -/
def rotl32 (x : Word) (n : Nat) : Word := (x <<< n) ||| (x >>> (32 - n))

/-- The words of a byte string, four bytes each, little-endian inside the algorithm (R91). -/
def md5Words : List Byte → List Word
  | b0 :: b1 :: b2 :: b3 :: rest => wordOfBytes b0 b1 b2 b3 :: md5Words rest
  | _ => []

/-- Step `i` of the compression loop (R91). -/
def md5Step (x : List Word) (m : Md5Chain) (i : Nat) : Md5Chain :=
  ⟨m.d,
   m.b + rotl32 (m.a + md5F i m.b m.c m.d + md5T.getD i 0 + x.getD (md5K i) 0) (md5S i),
   m.b,
   m.c⟩

/-- `compress` of R91 on one 64-byte block. -/
def md5Compress (m : Md5Chain) (block : List Byte) : Md5Chain :=
  let r := (List.range 64).foldl (md5Step (md5Words block)) m
  ⟨m.a + r.a, m.b + r.b, m.c + r.c, m.d + r.d⟩

/-- Compresses the first `n` 64-byte blocks of a byte string; the chaining words and the bytes left over. -/
def md5Blocks : Nat → Md5Chain → List Byte → Md5Chain × List Byte
  | 0, m, bytes => (m, bytes)
  | n + 1, m, bytes => md5Blocks n (md5Compress m (bytes.take 64)) (bytes.drop 64)

/-- `le32` of R90. -/
def le32 (w : Word) : List Byte := bytesOfWord w

/-- `le64` of R90. -/
def le64 (l : BitVec 64) : List Byte := bytesOfWord (l.extractLsb' 0 32) ++ bytesOfWord (l.extractLsb' 32 32)

/-- The digest of the chaining words: `le32(A) || le32(B) || le32(C) || le32(D)` (R90, R96). -/
def md5Digest (m : Md5Chain) : List Byte := le32 m.a ++ le32 m.b ++ le32 m.c ++ le32 m.d

/-- `md5(m)` in one shot (R90): pad with 0x80, zeros and the bit length, compress every block. -/
def md5 (m : List Byte) : List Byte :=
  let padded := m ++ [0x80] ++ List.replicate ((119 - m.length % 64) % 64) 0x00 ++ le64 (BitVec.ofNat 64 (8 * m.length))
  md5Digest (md5Blocks (padded.length / 64) Md5Context.init.chain padded).1

/-- `absorb(M, data)` of R92. -/
def Md5Context.absorb (m : Md5Context) (data : List Byte) : Md5Context :=
  let buf := m.part ++ data
  let r := md5Blocks (buf.length / 64) m.chain buf
  ⟨r.1, m.nbytes + BitVec.ofNat 61 data.length, r.2⟩

/-- `finalise(M)` of R92: the 16 digest bytes. -/
def Md5Context.finalise (m : Md5Context) : List Byte :=
  let tail := m.part ++ [0x80] ++ List.replicate ((119 - m.part.length % 64) % 64) 0x00 ++
    le64 (BitVec.ofNat 64 (8 * m.nbytes.toNat))
  md5Digest (md5Blocks (tail.length / 64) m.chain tail).1

/-- The digest as the contents of a 16-byte register: byte `i` of the register is byte `i` of the digest (R96). -/
def Md5Context.digestArray (m : Md5Context) : Vector Byte 16 := Vector.ofFn fun i => m.finalise.getD i.val 0

/-! ### Commands -/

/-- MD5_INIT (R93). -/
def execMd5Init (s : State) : Host.Outcome State Fault Refusal :=
  withCommand s fun _ => (s.setMd5 Md5Context.init, none)

/-- MD5_UPDATE (R94). -/
def execMd5Update (s : State) : Host.Outcome State Fault Refusal :=
  withCommand s fun p => withSource s p fun data => (s.setMd5 (s.md5.absorb data), none)

/-- MD5_UPDATE_SUMB (R95). -/
def execMd5UpdateSumb (s : State) : Host.Outcome State Fault Refusal :=
  withCommand s fun _ => (s.setMd5 (s.md5.absorb s.sumb.toList), none)

/-- MD5_FINAL (R96): the digest to the array DEST selects, then a new context. -/
def execMd5Final (dest : DigestDest) (s : State) : Host.Outcome State Fault Refusal :=
  withCommand s fun _ =>
    let t := match dest with
      | .digest => s.setDigest s.md5.digestArray
      | .sum => s.setSum s.md5.digestArray
    (t.setMd5 Md5Context.init, none)

/-- CMP_DIGEST (R97). -/
def execCmpDigest (s : State) : Host.Outcome State Fault Refusal :=
  withCommand s fun _ => (s, if s.digest ≠ s.ref then some .checksumWrong else none)

end Sys2Proof.Machine
end

