-- ==== Sys2Proof/Machine/Dispatch.lean ====
section
/-! DEFINITION. `execute` of 40_control.md R69: one arm per command, each a call of its meaning. -/

namespace Sys2Proof.Machine

def exec (i : Instr) (s : State) : Host.Outcome State Fault Refusal :=
  match i with
  | .nop => Sys2Proof.Machine.execNop s
  | .crc8Ivenc => Sys2Proof.Machine.execCrc8Ivenc s
  | .crc8Buf => Sys2Proof.Machine.execCrc8Buf s
  | .lrcBuf => Sys2Proof.Machine.execLrcBuf s
  | .gchkIvenc => Sys2Proof.Machine.execGchkIvenc s
  | .verifyG0 => Sys2Proof.Machine.execVerifyG0 s
  | .verifyG1 => Sys2Proof.Machine.execVerifyG1 s
  | .md5Init => Sys2Proof.Machine.execMd5Init s
  | .md5Update => Sys2Proof.Machine.execMd5Update s
  | .md5UpdateSumb => Sys2Proof.Machine.execMd5UpdateSumb s
  | .md5Final dest => Sys2Proof.Machine.execMd5Final dest s
  | .cmpDigest => Sys2Proof.Machine.execCmpDigest s
  | .kdHex => Sys2Proof.Machine.execKdHex s
  | .kdUuid => Sys2Proof.Machine.execKdUuid s
  | .kdG0 => Sys2Proof.Machine.execKdG0 s
  | .kdG1 => Sys2Proof.Machine.execKdG1 s
  | .ivMaskG0 => Sys2Proof.Machine.execIvMaskG0 s
  | .ivMaskG1 => Sys2Proof.Machine.execIvMaskG1 s
  | .ivUnmaskG0 => Sys2Proof.Machine.execIvUnmaskG0 s
  | .ivUnmaskG1 => Sys2Proof.Machine.execIvUnmaskG1 s
  | .aesCbcEnc pad => Sys2Proof.Machine.execAesCbcEnc pad s
  | .aesCbcDec pad => Sys2Proof.Machine.execAesCbcDec pad s

end Sys2Proof.Machine
end

