-- ==== Sys2Proof/Machine/Engine.lean ====
section
/-! DEFINITION. The engine sequencer's turn: fetch of the latched word, decode, completion (40_control.md R61, R69). -/

namespace Sys2Proof.Machine

/-- The engine's turn (R61): while BUSY = 1 it completes the pending command, an illegal word with ILLEGAL_COMMAND (R53,
R132); while BUSY = 0, or while PRESETn is low, it has no step. -/
def engineTurn (s : State) : Host.Outcome State Fault Refusal :=
  if s.presetn = false then .next s
  else match s.fetch with
    | none => .next s
    | some (.ok i) => exec i s
    | some (.error _) => .next (s.complete (some .illegalCommand))

end Sys2Proof.Machine
end

