-- ==== Sys2Proof/Machine/Step.lean ====
section
/-! DEFINITION. The step: one turn of the schedule, a host transfer, the engine's completion step, or a change of PRESETn
(20_memory.md R48, 40_control.md R61). When no turn is waiting and a command is pending, the engine completes it: the
command's latency is finite (R61, R170; log entries 1 and 2). -/

namespace Sys2Proof.Machine

/-- One step of the machine. -/
def step (s : State) : Host.Outcome State Fault Refusal :=
  match s.schedule with
  | [] => engineTurn s
  | .engine :: rest => engineTurn { s with schedule := rest }
  | .bus x :: rest => .next ({ s with schedule := rest }.transfer x)
  | .presetn level :: rest => .next ({ s with schedule := rest }.drivePresetn level)

/-- The state `s` with the table word `w` issued, as by the host's CMD write (R60), and the engine's turn next. PRESETn
is high, so that the engine runs. The next step completes exactly that command. -/
def State.withFetchWord (s : State) (nbits w : Nat) : State :=
  { s.issue (tableWord nbits w) with presetn := true, schedule := .engine :: s.schedule }

end Sys2Proof.Machine
end

