-- ==== Sys2Proof/Machine/HostProgram.lean ====
section
/-! DEFINITION. The host program syntax of 30_encoding.md R57 and R58: each line and each pseudo-instruction as the bus
transfers it stands for. These are inputs of the machine (`State.schedule`); the step does not depend on this file. -/

namespace Sys2Proof.Machine

/-- The mnemonic of a command in a host program, `.pad` and `.sum` for a flag that is set (R51, R57). -/
def assembler : Instr → String
  | .nop => "NOP"
  | .crc8Ivenc => "CRC8_IVENC"
  | .crc8Buf => "CRC8_BUF"
  | .lrcBuf => "LRC_BUF"
  | .gchkIvenc => "GCHK_IVENC"
  | .verifyG0 => "VERIFY_G0"
  | .verifyG1 => "VERIFY_G1"
  | .md5Init => "MD5_INIT"
  | .md5Update => "MD5_UPDATE"
  | .md5UpdateSumb => "MD5_UPDATE_SUMB"
  | .md5Final .digest => "MD5_FINAL"
  | .md5Final .sum => "MD5_FINAL.sum"
  | .cmpDigest => "CMP_DIGEST"
  | .kdHex => "KD_HEX"
  | .kdUuid => "KD_UUID"
  | .kdG0 => "KD_G0"
  | .kdG1 => "KD_G1"
  | .ivMaskG0 => "IV_MASK_G0"
  | .ivMaskG1 => "IV_MASK_G1"
  | .ivUnmaskG0 => "IV_UNMASK_G0"
  | .ivUnmaskG1 => "IV_UNMASK_G1"
  | .aesCbcEnc false => "AES_CBC_ENC"
  | .aesCbcEnc true => "AES_CBC_ENC.pad"
  | .aesCbcDec false => "AES_CBC_DEC"
  | .aesCbcDec true => "AES_CBC_DEC.pad"

/-- The offset of a byte-array register (R12). -/
def arrayOffset : ArrayReg → Nat
  | .key => 0x040
  | .rkey => 0x060
  | .iv => 0x080
  | .ivenc => 0x090
  | .sum => 0x0A0
  | .digest => 0x0B0
  | .ref => 0x0C0
  | .uuid => 0x0D0
  | .sumb => 0x0E0

/-- `wr R, v, s` (R57). -/
def wrStrobed (a : Nat) (v : Word) (s : BitVec 4) : Transfer := .write (BitVec.ofNat 13 a) v s 0

/-- `wr R, v` (R57). -/
def wr (a : Nat) (v : Word) : Transfer := wrStrobed a v 0xF

/-- `rd R` (R57). -/
def rd (a : Nat) : Transfer := .read (BitVec.ofNat 13 a) 0

/-- `cmd M` (R57). -/
def cmdLine (i : Instr) : Transfer := wr 0x00C (encode i)

/-- `clr` (R58): clears DONE, ERR, ERRCODE and WBUSY. -/
def clr : Transfer := wr 0x008 0x0000000E

/-- `poll` (R58): reads of STATUS until BUSY = 0. `n` of them find the engine still busy; then the command completes
and one more read sees it. The number `n` is unspecified but finite (R58, R170). -/
def poll (n : Nat) : List Turn := List.replicate n (.bus (rd 0x008)) ++ [.engine, .bus (rd 0x008)]

/-- The operand writes of `run M [src=a] [dst=b] [len=n]` (R58): one for each operand given. -/
def operandWrites (src dst len : Option Word) : List Transfer :=
  (src.map (wr 0x010)).toList ++ (dst.map (wr 0x014)).toList ++ (len.map (wr 0x018)).toList

/-- `run M [src=a] [dst=b] [len=n]` (R58), its `poll` finding the engine busy `n` times. -/
def run (i : Instr) (src dst len : Option Word) (n : Nat) : List Turn :=
  (operandWrites src dst len ++ [cmdLine i]).map Turn.bus ++ poll n

/-- The offsets of the aligned words that overlap `[off, off+n)`, for `n` above 0 (R58). -/
def wordsOverlapping (off n : Nat) : List Nat :=
  if n = 0 then []
  else (List.range ((off + n - 1) / 4 - off / 4 + 1)).map fun j => 4 * (off / 4 + j)

/-- The strobe of the bytes of word `k` that lie inside `[off, off+n)` (R58). -/
def strobeInside (off n k : Nat) : BitVec 4 :=
  (List.range 4).foldl
    (fun s b => if off ≤ k + b ∧ k + b < off + n then s ||| BitVec.ofNat 4 (2 ^ b) else s) 0

/-- `wrbytes off, <bytes>` (R58): a byte outside the range is written as a lane of 0 with its strobe clear (R59). -/
def wrbytes (off : Nat) (data : List Byte) : List Transfer :=
  (wordsOverlapping off data.length).map fun k =>
    let byteAt (b : Nat) : Byte := if off ≤ k + b then data.getD (k + b - off) 0 else 0
    wrStrobed (0x1000 + k) (wordOfBytes (byteAt 0) (byteAt 1) (byteAt 2) (byteAt 3)) (strobeInside off data.length k)

/-- `rdbytes off, n` (R58). -/
def rdbytes (off n : Nat) : List Transfer := (wordsOverlapping off n).map fun k => rd (0x1000 + k)

/-- `wrarr A, <bytes>` (R58): one whole-word write per four bytes, from byte 0. -/
def wrarr (r : ArrayReg) (data : List Byte) : List Transfer :=
  (List.range (data.length / 4)).map fun j =>
    wr (arrayOffset r + 4 * j)
      (wordOfBytes (data.getD (4 * j) 0) (data.getD (4 * j + 1) 0) (data.getD (4 * j + 2) 0) (data.getD (4 * j + 3) 0))

/-- The size in bytes of a byte-array register (R12). -/
def arrayBytes : ArrayReg → Nat
  | .key | .rkey | .sumb => 32
  | .iv | .ivenc | .sum | .digest | .ref | .uuid => 16

/-- `rdarr A` (R58). -/
def rdarr (r : ArrayReg) : List Transfer :=
  (List.range (arrayBytes r / 4)).map fun j => rd (arrayOffset r + 4 * j)

end Sys2Proof.Machine
end

