-- ==== Sys2Proof/Safety.lean ====
section
/-! DEFINITION. The terms the statements use: what a legal state is, what completing a command means, and which parts of
the state a command leaves alone. -/

namespace Sys2Proof.Machine

/-! ### Legal states -/

/-- A legal MD5 context (R32, R92): PART holds fewer than 64 bytes, as many as NBYTES leaves over whole blocks. -/
def Md5Context.Legal (m : Md5Context) : Prop := m.part.length < 64 ∧ m.part.length = m.nbytes.toNat % 64

/-- While a command is pending no flag of an earlier one stands: `BUSY = 1 ⇒ DONE = 0 ∧ ERR = 0 ∧ ERRCODE = 0` (R15). -/
def State.StatusLegal (s : State) : Prop := s.busy = true → s.done = false ∧ s.err = none

/-- The latch holds what CMD, SRC, DST and LEN hold: writes are dropped while BUSY = 1 (R33, R38, R60). -/
def State.LatchLegal (s : State) : Prop := ∀ p, s.pend = some p → p = ⟨s.cmd, s.src, s.dst, s.len⟩

/-- While PRESETn is low every register is at its reset value (R160). -/
def State.PinLegal (s : State) : Prop := s.presetn = false → s.resetRegisters = s

/-- A legal state of the CLE. -/
def State.Inv (s : State) : Prop :=
  s.buf.wf = true ∧ s.md5.Legal ∧ s.StatusLegal ∧ s.LatchLegal ∧ s.PinLegal

/-! ### Completion and frames -/

/-- The command has completed with a code: BUSY = 0, DONE = 1, ERR and ERRCODE by the code (R61). -/
def State.CompletedWith (t : State) (code : Option ErrCode) : Prop :=
  t.pend = none ∧ t.done = true ∧ t.err = code

/-- What no command writes (R12, R52): the control, operand and configuration registers, CHKREF, XLAT, KEY, REF, UUID
and WBUSY; and what lies outside the engine, the pin, the waiting turns, the last answer, the draw counter. -/
def SameInputs (s t : State) : Prop :=
  t.ctrl = s.ctrl ∧ t.wbusy = s.wbusy ∧ t.cmd = s.cmd ∧ t.src = s.src ∧ t.dst = s.dst ∧ t.len = s.len ∧
  t.chkref = s.chkref ∧ t.crccfg = s.crccfg ∧ t.g1cfg = s.g1cfg ∧ t.xlatX = s.xlatX ∧
  t.key = s.key ∧ t.ref = s.ref ∧ t.uuid = s.uuid ∧
  t.presetn = s.presetn ∧ t.schedule = s.schedule ∧ t.resp = s.resp ∧ t.draws = s.draws

/-- The outputs of the command set (R52): what some command writes, beside STATUS. -/
inductive Output where
  | outlen
  | chkCrc
  | chkG1
  | chkLrc
  | chkG2
  | rkey
  | iv
  | ivenc
  | sum
  | digest
  | sumb
  | buf
  | md5
deriving DecidableEq, Repr

/-- An output is unchanged; BUF, byte by byte through its read. -/
def Output.Same (s t : State) : Output → Prop
  | .outlen => t.outlen = s.outlen
  | .chkCrc => t.chk.crc = s.chk.crc
  | .chkG1 => t.chk.g1 = s.chk.g1
  | .chkLrc => t.chk.lrc = s.chk.lrc
  | .chkG2 => t.chk.g2 = s.chk.g2
  | .rkey => t.rkey = s.rkey
  | .iv => t.iv = s.iv
  | .ivenc => t.ivenc = s.ivenc
  | .sum => t.sum = s.sum
  | .digest => t.digest = s.digest
  | .sumb => t.sumb = s.sumb
  | .buf => t.buf.size = s.buf.size ∧ ∀ a, t.buf.read a = s.buf.read a
  | .md5 => t.md5 = s.md5

/-- From `s` to `t` nothing has changed but STATUS and the outputs listed. -/
def Frame (written : List Output) (s t : State) : Prop :=
  SameInputs s t ∧ ∀ o : Output, o ∉ written → o.Same s t

/-- The outputs a command writes: the column "writes" of the table of R52. -/
def writesOf : Instr → List Output
  | .nop | .cmpDigest => []
  | .crc8Ivenc | .crc8Buf | .verifyG0 => [.chkCrc]
  | .lrcBuf => [.chkLrc]
  | .gchkIvenc | .verifyG1 => [.chkG1, .chkLrc, .chkG2]
  | .md5Init | .md5Update | .md5UpdateSumb => [.md5]
  | .md5Final .digest => [.digest, .md5]
  | .md5Final .sum => [.sum, .md5]
  | .kdHex | .kdUuid => [.sumb]
  | .kdG0 | .kdG1 => [.rkey]
  | .ivMaskG0 | .ivMaskG1 => [.ivenc]
  | .ivUnmaskG0 | .ivUnmaskG1 => [.iv]
  | .aesCbcEnc _ | .aesCbcDec _ => [.buf, .outlen]

/-- Whether a command is one of the two AES commands. -/
def isAes : Instr → Bool
  | .aesCbcEnc _ | .aesCbcDec _ => true
  | _ => false

/-- Every byte of BUF outside `[off, off+n)` reads as before, and the buffer has the same size. -/
def BufSameOutside (off n : Nat) (s t : State) : Prop :=
  t.buf.size = s.buf.size ∧ ∀ a, ¬(off ≤ a ∧ a < off + n) → t.buf.read a = s.buf.read a

/-- BUF holds the byte string `x` from `off` on. -/
def BufHolds (t : State) (off : Nat) (x : List Byte) : Prop :=
  ∀ k, k < x.length → t.buf.read (off + k) = x.getD k 0

/-- `exec i` answers a next state with these properties: the command completes. -/
def Completes (i : Instr) (s : State) (post : State → Prop) : Prop := ∃ t, exec i s = .next t ∧ post t

/-! ### The registers the host sees -/

/-- Byte `i` of a byte-array register, 0 past its end (R24). -/
def State.arrayByte (s : State) (r : ArrayReg) (i : Nat) : Byte :=
  match r with
  | .key => (s.key[i]?).getD 0
  | .rkey => (s.rkey[i]?).getD 0
  | .iv => (s.iv[i]?).getD 0
  | .ivenc => (s.ivenc[i]?).getD 0
  | .sum => (s.sum[i]?).getD 0
  | .digest => (s.digest[i]?).getD 0
  | .ref => (s.ref[i]?).getD 0
  | .uuid => (s.uuid[i]?).getD 0
  | .sumb => (s.sumb[i]?).getD 0

/-- The current contents of the word at a word-aligned offset of the window. -/
def State.wordAt (s : State) (a : Addr) : Word := s.readTarget (s.target a)

/-- `s` after a transfer that had no effect but its answer. -/
def State.answered (s : State) (r : BusResponse) : State := { s with resp := some r }

/-! ### Data the host can come to see -/

/-- Two states agree on every register and flag but WBUSY, on BUF, on the hidden state and on the pin: on all but WBUSY,
the waiting turns, the last answer and the draw counter. -/
def SameData (s t : State) : Prop :=
  t.ctrl = s.ctrl ∧ t.done = s.done ∧ t.err = s.err ∧
  t.cmd = s.cmd ∧ t.src = s.src ∧ t.dst = s.dst ∧ t.len = s.len ∧ t.outlen = s.outlen ∧
  t.chk = s.chk ∧ t.chkref = s.chkref ∧ t.crccfg = s.crccfg ∧ t.g1cfg = s.g1cfg ∧ t.xlatX = s.xlatX ∧
  t.key = s.key ∧ t.rkey = s.rkey ∧ t.iv = s.iv ∧ t.ivenc = s.ivenc ∧ t.sum = s.sum ∧ t.digest = s.digest ∧
  t.ref = s.ref ∧ t.uuid = s.uuid ∧ t.sumb = s.sumb ∧ t.buf = s.buf ∧ t.md5 = s.md5 ∧ t.pend = s.pend ∧
  t.presetn = s.presetn

/-- A write to CTRL with bit 31 set and all strobes: a soft reset (R161). -/
def IsSoftReset (x : Transfer) : Prop := ∃ d prot, x = .write 0x004 d 0xF prot ∧ d[31] = true

end Sys2Proof.Machine
end

