-- ==== Sys2Proof/Certificates/Slice0/Obligations.lean ====
section
/-! DEFINITION. The statements for the provers. Each docstring says which rule of the spec it formalises. Where a
statement speaks of a free value (`Config.unspecWord`, `Config.unspecByte`), it holds for every value of the counter
`draws`. -/

open Sys2Proof Sys2Proof.Machine

/-! ### Command words (30_encoding.md) -/

/-- R50, R51, R53: decoding the word of a well-formed command gives it back, and so does decoding its bytes with any
bytes after them. -/
def Obligations.DecodeInvertsEncode : Prop :=
  ∀ (i : Instr) (rest : List Byte), i.wf = true →
    decode (encode i) = .ok i ∧ decodeBytes (encodeBytes i ++ rest) = .ok (i, rest)

/-- R53: a word is accepted exactly when it is legal, by the rule's own formula and by the checks on the format's
fields; and an accepted word is the one word of its command. -/
def Obligations.DecoderAcceptsExactlyLegalWords : Prop :=
  ∀ w : Word,
    ((∃ i, decode w = .ok i) ↔
      w.extractLsb' 0 8 ∈ definedOps ∧ w &&& ~~~(0xFF ||| allowedFlags (w.extractLsb' 0 8)) = 0) ∧
    ((∃ i, decode w = .ok i) ↔ (cmd32OfWord w).wf = true) ∧
    ∀ i, decode w = .ok i ↔ w = encode i

/-- R51: the opcode map and the flagged forms, each word written out. -/
def Obligations.OpcodeMapWords : Prop :=
  decode 0x00000000 = .ok .nop ∧ decode 0x00000010 = .ok .crc8Ivenc ∧ decode 0x00000011 = .ok .crc8Buf ∧
  decode 0x00000012 = .ok .lrcBuf ∧ decode 0x00000013 = .ok .gchkIvenc ∧ decode 0x00000014 = .ok .verifyG0 ∧
  decode 0x00000015 = .ok .verifyG1 ∧ decode 0x00000020 = .ok .md5Init ∧ decode 0x00000021 = .ok .md5Update ∧
  decode 0x00000022 = .ok .md5UpdateSumb ∧ decode 0x00000023 = .ok (.md5Final .digest) ∧
  decode 0x00000223 = .ok (.md5Final .sum) ∧ decode 0x00000024 = .ok .cmpDigest ∧ decode 0x00000030 = .ok .kdHex ∧
  decode 0x00000031 = .ok .kdUuid ∧ decode 0x00000032 = .ok .kdG0 ∧ decode 0x00000033 = .ok .kdG1 ∧
  decode 0x00000034 = .ok .ivMaskG0 ∧ decode 0x00000035 = .ok .ivMaskG1 ∧ decode 0x00000036 = .ok .ivUnmaskG0 ∧
  decode 0x00000037 = .ok .ivUnmaskG1 ∧ decode 0x00000040 = .ok (.aesCbcEnc false) ∧
  decode 0x00000140 = .ok (.aesCbcEnc true) ∧ decode 0x00000041 = .ok (.aesCbcDec false) ∧
  decode 0x00000141 = .ok (.aesCbcDec true)

/-- R59: the worked encodings; the decoder refuses the illegal words, 0x42 having a reserved opcode; and the expansion of
`wrbytes 6, AA BB CC`, whose transfers write BUF[6], BUF[7] and BUF[8] and no other byte. -/
def Obligations.WorkedEncodings : Prop :=
  cmdLine .nop = .write 0x00C 0x00000000 0xF 0 ∧
  cmdLine (.md5Final .sum) = .write 0x00C 0x00000223 0xF 0 ∧
  cmdLine (.aesCbcDec true) = .write 0x00C 0x00000141 0xF 0 ∧
  (∀ w ∈ [(0x00000123 : Word), 0x00000110, 0x00000042, 0x00000400], ∀ i, decode w ≠ .ok i) ∧
  (0x42 : Byte) ∉ definedOps ∧
  wrbytes 6 [0xAA, 0xBB, 0xCC] = [wrStrobed 0x1004 0xBBAA0000 0b1100, wrStrobed 0x1008 0x000000CC 0b0001] ∧
  let t := (wrbytes 6 [0xAA, 0xBB, 0xCC]).foldl State.transfer State.reset
  t.buf.read 6 = 0xAA ∧ t.buf.read 7 = 0xBB ∧ t.buf.read 8 = 0xCC ∧ BufSameOutside 6 3 State.reset t

/-! ### The step, issue and completion (40_control.md) -/

/-- R53, R61, R69: when the latched word decodes to a command, the engine's turn is that command's completion, whether
the turn is scheduled or no other turn is waiting. (That turns are held as data, and that the engine completes when none
is waiting, is the model's: log entries 1 and 2.) -/
def Obligations.StepRunsDecodedCommand : Prop :=
  ∀ (s : State) (p : Pending) (i : Instr),
    s.presetn = true → s.pend = some p → decode p.word = .ok i →
    (s.schedule = [] → step s = exec i s) ∧
    ∀ rest, s.schedule = .engine :: rest → step s = exec i { s with schedule := rest }

/-- R53, R60, R61: the table word placed by `withFetchWord` is run by the very next step, on the operands SRC, DST and LEN
hold, as after the host's CMD write. (The machine fetches nothing: how a command word reaches it here is the model's
choice, log entry 1, and the byte order of a table word is deduced, log entry 16.) -/
def Obligations.FetchedTableWordRunsNext : Prop :=
  ∀ (s : State) (nbits w : Nat) (i : Instr), decodeTableWord nbits w = some i →
    (s.withFetchWord nbits w).pend = some ⟨tableWord nbits w, s.src, s.dst, s.len⟩ ∧
    step (s.withFetchWord nbits w) = exec i { s.issue (tableWord nbits w) with presetn := true }

/-- R53, R132: an illegal word completes with ILLEGAL_COMMAND and changes nothing but STATUS, OUTLEN included. (The
schedule of turns is the model's: log entries 1 and 2.) -/
def Obligations.IllegalWordChangesOnlyStatus : Prop :=
  ∀ (s : State) (p : Pending) (rest : List Turn),
    s.presetn = true → s.pend = some p → (cmd32OfWord p.word).wf = false →
    s.schedule = .engine :: rest ∨ (s.schedule = [] ∧ rest = []) →
    ∃ t, step s = .next t ∧ t.CompletedWith (some .illegalCommand) ∧ Frame [] { s with schedule := rest } t ∧
      (s.wbusy = false → t.statusWord = 0x00000106)

/-- R61: while BUSY = 0 the engine has no step. (A turn that the schedule gives the idle engine is used up with no effect:
the model's choice, log entry 1.) -/
def Obligations.IdleEngineHasNoStep : Prop :=
  ∀ s : State, s.pend = none →
    (s.schedule = [] → step s = .next s) ∧
    ∀ rest, s.schedule = .engine :: rest → step s = .next { s with schedule := rest }

/-- R60: a CMD write while BUSY = 0 latches the word and the operands, sets BUSY and clears DONE, ERR and ERRCODE, and
nothing else changes, whatever the word; while BUSY = 1 it is dropped and sets WBUSY. (`resp` records the answer to the
transfer.) -/
def Obligations.CmdWriteIssuesOrIsDropped : Prop :=
  ∀ (s : State) (d : Word) (prot : BitVec 3), s.presetn = true →
    (s.busy = false → s.transfer (.write 0x00C d 0xF prot) = { s with
      cmd := d, pend := some ⟨d, s.src, s.dst, s.len⟩, done := false, err := none, resp := some (.wrote false) }) ∧
    (s.busy = true → s.transfer (.write 0x00C d 0xF prot) = { s with wbusy := true, resp := some (.wrote false) })

/-- R38: while BUSY = 1 a write that is no bus error, no STATUS write and no soft reset is dropped: it only sets WBUSY, and
the transfer succeeds. -/
def Obligations.BusyDropsWrites : Prop :=
  ∀ (s : State) (a : Addr) (d : Word) (strb : BitVec 4) (prot : BitVec 3),
    s.presetn = true → s.busy = true → s.busError (.write a d strb prot) = false → a ≠ 0x008 →
    ¬IsSoftReset (.write a d strb prot) →
    s.transfer (.write a d strb prot) = { s with wbusy := true, resp := some (.wrote false) }

/-- R142: a STATUS write clears DONE by bit 1, ERR with ERRCODE by bit 2, WBUSY by bit 3, leaves the bits written 0 as they
are and restores nothing else, busy or not; `clr` clears all three; the next issue clears DONE, ERR and ERRCODE, not
WBUSY. -/
def Obligations.StatusWriteAcknowledges : Prop :=
  ∀ (s : State), s.presetn = true →
    (∀ (d : Word) (prot : BitVec 3), s.transfer (.write 0x008 d 0xF prot) = { s with
      done := s.done && !d[1], err := if d[2] then none else s.err, wbusy := s.wbusy && !d[3],
      resp := some (.wrote false) }) ∧
    ((s.transfer clr).done = false ∧ (s.transfer clr).errFlag = false ∧ (s.transfer clr).errcode = 0 ∧
      (s.transfer clr).wbusy = false) ∧
    ∀ d : Word, (s.issue d).done = false ∧ (s.issue d).errFlag = false ∧ (s.issue d).errcode = 0 ∧
      (s.issue d).wbusy = s.wbusy

/-! ### The bus (20_memory.md) -/

/-- R37: PSLVERR = 1 in exactly two cases, a misaligned address, or a partial write to CTRL, STATUS, CMD or XLAT; such a
transfer has no effect on any state, not on WBUSY either, and an erroring read returns 0. -/
def Obligations.BusErrorsAreExactAndHarmless : Prop :=
  ∀ s : State, s.presetn = true →
    (∀ (a : Addr) (d : Word) (strb : BitVec 4) (prot : BitVec 3),
      let bad := a.toNat % 4 ≠ 0 ∨ (a ∈ [(0x004 : Addr), 0x008, 0x00C, 0x030] ∧ strb ≠ 0xF)
      (bad → s.transfer (.write a d strb prot) = s.answered (.wrote true)) ∧
      (¬bad → (s.transfer (.write a d strb prot)).resp = some (.wrote false))) ∧
    ∀ (a : Addr) (prot : BitVec 3),
      (a.toNat % 4 ≠ 0 → s.transfer (.read a prot) = s.answered (.read 0 true)) ∧
      (a.toNat % 4 = 0 → ∃ v, (s.transfer (.read a prot)).resp = some (.read v false))

/-- R39, R45: an aligned read returns the current contents of the word and changes nothing else, except that a read of
OUTLEN, CHK, a byte array or the buffer window made while BUSY = 1 returns an unspecified value, a fresh draw. (The count
`draws` is the model's own: log entries 4 and 12.) -/
def Obligations.ReadsReturnContentsOrDraws : Prop :=
  ∀ (s : State) (a : Addr) (prot : BitVec 3), s.presetn = true → a.toNat % 4 = 0 →
    let owned := a = 0x01C ∨ a = 0x020 ∨ (0x040 ≤ a.toNat ∧ a.toNat < 0x100) ∨
      (0x1000 ≤ a.toNat ∧ a.toNat < 0x1000 + s.buf.size)
    (s.busy = true ∧ owned → s.transfer (.read a prot) =
      { s with resp := some (.read (Config.unspecWord s.draws) false), draws := s.draws + 1 }) ∧
    (¬(s.busy = true ∧ owned) → s.transfer (.read a prot) = s.answered (.read (s.wordAt a) false))

/-- R41, R42: the buffer window. The word at `0x1000 + k` reads `BUF[k]` in its low byte up to `BUF[k+3]` in its high byte;
a write sets `BUF[k+b]` to lane `b` for each set strobe and changes nothing else; past BUF_SIZE the window reads 0 and
ignores writes. -/
def Obligations.BufferWindowWords : Prop :=
  ∀ (s : State) (k : Nat) (d : Word) (strb : BitVec 4) (prot : BitVec 3),
    s.presetn = true → s.busy = false → s.buf.wf = true → k % 4 = 0 → k < 0x1000 →
    let a : Addr := BitVec.ofNat 13 (0x1000 + k)
    (k < s.buf.size →
      s.transfer (.read a prot) = s.answered (.read (wordOfBytes (s.buf.read k) (s.buf.read (k + 1)) (s.buf.read (k + 2))
        (s.buf.read (k + 3))) false) ∧
      ∃ m : Memory, s.transfer (.write a d strb prot) = { s with buf := m, resp := some (.wrote false) } ∧
        m.size = s.buf.size ∧ (∀ b, b < 4 → m.read (k + b) = if strb.getLsbD b then lane d b else s.buf.read (k + b)) ∧
        ∀ x, ¬(k ≤ x ∧ x < k + 4) → m.read x = s.buf.read x) ∧
    (s.buf.size ≤ k →
      s.transfer (.read a prot) = s.answered (.read 0 false) ∧
      s.transfer (.write a d strb prot) = s.answered (.wrote false))

/-- R24, R38, R44: word `j` of a byte-array register reads its bytes `4j` to `4j+3`, the lowest in bits 7:0, and a write
sets byte `4j+b` to lane `b` for each set strobe; DIGEST ignores writes. -/
def Obligations.ByteArrayWords : Prop :=
  ∀ (s : State) (r : ArrayReg) (j : Nat) (d : Word) (strb : BitVec 4) (prot : BitVec 3),
    s.presetn = true → s.busy = false → j < arrayBytes r / 4 →
    let a : Addr := BitVec.ofNat 13 (arrayOffset r + 4 * j)
    s.transfer (.read a prot) = s.answered (.read (wordOfBytes (s.arrayByte r (4 * j)) (s.arrayByte r (4 * j + 1))
      (s.arrayByte r (4 * j + 2)) (s.arrayByte r (4 * j + 3))) false) ∧
    (r = .digest → s.transfer (.write a d strb prot) = s.answered (.wrote false)) ∧
    (r ≠ .digest → ∀ i, (s.transfer (.write a d strb prot)).arrayByte r i =
      if i / 4 = j ∧ strb.getLsbD (i % 4) = true then lane d (i % 4) else s.arrayByte r i)

/-- R38, R45: a write to a word other than STATUS and CMD, no bus error and no soft reset, accepted while BUSY = 0, leaves
every other word of the window, the flags, the latch and the hidden MD5 context as they were. -/
def Obligations.WritesLeaveOtherWords : Prop :=
  ∀ (s : State) (a : Addr) (d : Word) (strb : BitVec 4) (prot : BitVec 3),
    s.presetn = true → s.busy = false → s.busError (.write a d strb prot) = false → a ≠ 0x008 → a ≠ 0x00C →
    ¬IsSoftReset (.write a d strb prot) →
    (∀ b : Addr, b.toNat % 4 = 0 → b ≠ a → (s.transfer (.write a d strb prot)).wordAt b = s.wordAt b) ∧
    (s.transfer (.write a d strb prot)).statusWord = s.statusWord ∧
    (s.transfer (.write a d strb prot)).pend = none ∧ (s.transfer (.write a d strb prot)).md5 = s.md5

/-- R14 to R22, R38: the control registers as words and as fields. In every state CTRL, STATUS, CMD, SRC, DST, LEN, OUTLEN,
CHK, CHKREF, CRCCFG and G1CFG read their fields at the places their rules give. A write while BUSY = 0 stores the strobed
bytes: SRC, DST, LEN and CHKREF read them back, CRCCFG and G1CFG the same with their reserved bits staying 0, CTRL its bits
2:0; and each field of CTRL, CHKREF, CRCCFG and G1CFG holds the bits its rule names. -/
def Obligations.WrittenRegisterReadsBack : Prop :=
  (∀ s : State,
    let bit (b : Bool) : Word := if b then 1 else 0
    let byte (b : Byte) : Word := b.setWidth 32
    s.wordAt 0x004 = bit s.ctrl.role ||| bit s.ctrl.hexlc <<< 1 ||| bit s.ctrl.irqen <<< 2 ∧
    s.wordAt 0x008 = bit s.busy ||| bit s.done <<< 1 ||| bit s.errFlag <<< 2 ||| bit s.wbusy <<< 3 |||
      s.errcode.setWidth 32 <<< 8 ∧
    s.wordAt 0x00C = s.cmd ∧ s.wordAt 0x010 = s.src ∧ s.wordAt 0x014 = s.dst ∧ s.wordAt 0x018 = s.len ∧
    s.wordAt 0x01C = s.outlen ∧
    s.wordAt 0x020 = byte s.chk.crc ||| byte s.chk.g1 <<< 8 ||| byte s.chk.lrc <<< 16 ||| byte s.chk.g2 <<< 24 ∧
    s.wordAt 0x024 =
      byte s.chkref.crc ||| byte s.chkref.g1 <<< 8 ||| byte s.chkref.lrc <<< 16 ||| byte s.chkref.g2 <<< 24 ∧
    s.wordAt 0x028 = byte s.crccfg.poly ||| byte s.crccfg.init <<< 8 ||| byte s.crccfg.xorout <<< 16 |||
      bit s.crccfg.refin <<< 24 ||| bit s.crccfg.refout <<< 25 ∧
    s.wordAt 0x02C = bit s.g1cfg.r0OddNot ||| bit s.g1cfg.r0EvenNot <<< 1 ||| bit s.g1cfg.r1OddNot <<< 2 |||
      bit s.g1cfg.r1EvenNot <<< 3 ||| bit s.g1cfg.gprev0 <<< 8) ∧
  ∀ (s : State) (d : Word) (strb : BitVec 4) (prot : BitVec 3), s.presetn = true → s.busy = false →
    (∀ a ∈ [(0x010 : Addr), 0x014, 0x018, 0x024], ∀ b, b < 4 →
      lane ((s.transfer (.write a d strb prot)).wordAt a) b =
        if strb.getLsbD b then lane d b else lane (s.wordAt a) b) ∧
    (s.transfer (.write 0x028 d strb prot)).wordAt 0x028 =
      mergeLanes (s.wordAt 0x028) d strb &&& 0x03FFFFFF ∧
    (s.transfer (.write 0x02C d strb prot)).wordAt 0x02C =
      mergeLanes (s.wordAt 0x02C) d strb &&& 0x0000010F ∧
    (d[31] = false → (s.transfer (.write 0x004 d 0xF prot)).wordAt 0x004 = d &&& 0x00000007) ∧
    (d[31] = false → (s.transfer (.write 0x004 d 0xF prot)).ctrl = { role := d[0], hexlc := d[1], irqen := d[2] }) ∧
    (s.transfer (.write 0x024 d strb prot)).chkref = {
      crc := if strb[0] then d.extractLsb' 0 8 else s.chkref.crc
      g1 := if strb[1] then d.extractLsb' 8 8 else s.chkref.g1
      lrc := if strb[2] then d.extractLsb' 16 8 else s.chkref.lrc
      g2 := if strb[3] then d.extractLsb' 24 8 else s.chkref.g2 } ∧
    (s.transfer (.write 0x028 d strb prot)).crccfg = {
      poly := if strb[0] then d.extractLsb' 0 8 else s.crccfg.poly
      init := if strb[1] then d.extractLsb' 8 8 else s.crccfg.init
      xorout := if strb[2] then d.extractLsb' 16 8 else s.crccfg.xorout
      refin := if strb[3] then d[24] else s.crccfg.refin
      refout := if strb[3] then d[25] else s.crccfg.refout } ∧
    (s.transfer (.write 0x02C d strb prot)).g1cfg = {
      r0OddNot := if strb[0] then d[0] else s.g1cfg.r0OddNot
      r0EvenNot := if strb[0] then d[1] else s.g1cfg.r0EvenNot
      r1OddNot := if strb[0] then d[2] else s.g1cfg.r1OddNot
      r1EvenNot := if strb[0] then d[3] else s.g1cfg.r1EvenNot
      gprev0 := if strb[1] then d[8] else s.g1cfg.gprev0 }

/-- R74: XLAT. A write with all strobes sets X to `PWDATA[7:0]`, and a read returns `parity8(X) << 24 | brev8(X) << 16 |
gray8(X) << 8 | X`, also while BUSY = 1; a write while BUSY = 1 is dropped; the rule's example. -/
def Obligations.XlatLooksUpTables : Prop :=
  ∀ (s : State) (d : Word) (prot : BitVec 3), s.presetn = true →
    (s.busy = false → s.transfer (.write 0x030 d 0xF prot) =
      { s with xlatX := d.extractLsb' 0 8, resp := some (.wrote false) }) ∧
    (s.busy = true → s.transfer (.write 0x030 d 0xF prot) = { s with wbusy := true, resp := some (.wrote false) }) ∧
    (∀ strb : BitVec 4, strb ≠ 0xF → s.transfer (.write 0x030 d strb prot) = s.answered (.wrote true)) ∧
    s.transfer (.read 0x030 prot) = s.answered (.read
      ((if parity8 s.xlatX then 0x01000000 else 0) ||| (brev8 s.xlatX).setWidth 32 <<< 16 |||
       (gray8 s.xlatX).setWidth 32 <<< 8 ||| s.xlatX.setWidth 32) false) ∧
    (s.busy = false → ((s.transfer (wr 0x030 0x000000B4)).transfer (rd 0x030)).resp = some (.read 0x002DEEB4 false))

/-- R12, R13, RAZ/WI: reserved offsets read 0 and ignore writes; ID reads its constant at all times; writes to ID, OUTLEN,
CHK and DIGEST are ignored without error. -/
def Obligations.ReservedAndReadOnlyOffsets : Prop :=
  ∀ (s : State) (a : Addr), a.toNat % 4 = 0 →
    s.wordAt 0x000 = 0xCB070100 ∧
    ((0x034 ≤ a.toNat ∧ a.toNat < 0x040) ∨ (0x100 ≤ a.toNat ∧ a.toNat < 0x1000) → s.wordAt a = 0) ∧
    ((0x034 ≤ a.toNat ∧ a.toNat < 0x040) ∨ (0x100 ≤ a.toNat ∧ a.toNat < 0x1000) ∨ a = 0x000 ∨ a = 0x01C ∨ a = 0x020 ∨
        (0x0B0 ≤ a.toNat ∧ a.toNat < 0x0C0) →
      s.presetn = true → s.busy = false → ∀ d strb prot,
        s.transfer (.write a d strb prot) = s.answered (.wrote false))

/-! ### Interrupt, errors and reset (60_exceptions.md, 70_reset_and_hazards.md) -/

/-- R144: IRQ is IRQEN AND DONE. It rises with completion when IRQEN = 1; it falls when DONE is cleared, at an issue, when
IRQEN is written 0, and at reset; setting IRQEN while DONE = 1 raises it at once; it is 0 after reset. -/
def Obligations.IrqIsLevelOfDone : Prop :=
  (∀ s : State, s.irq = (s.ctrl.irqen && s.done)) ∧
  (∀ (s : State) (code : Option ErrCode), (s.complete code).irq = s.ctrl.irqen) ∧
  (∀ s : State, s.presetn = true →
    (∀ (d : Word) (prot : BitVec 3), d[1] = true → (s.transfer (.write 0x008 d 0xF prot)).irq = false) ∧
    (∀ (d : Word) (prot : BitVec 3), s.busy = false → (s.transfer (.write 0x00C d 0xF prot)).irq = false) ∧
    (∀ (d : Word) (prot : BitVec 3), s.busy = false → d[31] = false →
      (s.transfer (.write 0x004 d 0xF prot)).irq = (d[2] && s.done)) ∧
    (∀ (d : Word) (prot : BitVec 3), d[31] = true → (s.transfer (.write 0x004 d 0xF prot)).irq = false)) ∧
  (∀ s : State, (s.drivePresetn false).irq = false) ∧ State.reset.irq = false

/-- R130: STATUS at completion, with WBUSY = 0, is 0x00000002 on success and the table's word for each error code. -/
def Obligations.StatusAtCompletion : Prop :=
  ∀ s : State, s.wbusy = false →
    (s.complete none).statusWord = 0x00000002 ∧
    (s.complete (some .illegalCommand)).statusWord = 0x00000106 ∧
    (s.complete (some .bounds)).statusWord = 0x00000206 ∧
    (s.complete (some .cipherLenWrong)).statusWord = 0x00000306 ∧
    (s.complete (some .paddingWrong)).statusWord = 0x00000406 ∧
    (s.complete (some .ivCheckError)).statusWord = 0x00000506 ∧
    (s.complete (some .checksumWrong)).statusWord = 0x00000606

/-- R35, R160, R161, R162: after a soft reset (whatever `PWDATA[30:0]` holds, busy or not), after PRESETn is driven low and
after it rises, every word of the register block reads its reset value, STATUS is 0, IRQ is 0, no command is pending and
the MD5 context is initial; BUF is unchanged when no command was pending. (PRESETn as a level that turns change is the
model's: log entry 10.) -/
def Obligations.ResetsReachResetTable : Prop :=
  ∀ s t : State,
    (s.presetn = true ∧ ∃ d prot, d[31] = true ∧ t = s.transfer (.write 0x004 d 0xF prot)) ∨ t = s.drivePresetn false ∨
      (s.presetn = false ∧ t = s.drivePresetn true) →
    (∀ a : Addr, a.toNat % 4 = 0 → a.toNat < 0x1000 → t.wordAt a =
      if a = 0x000 then 0xCB070100 else if a = 0x028 then 0x00000007 else if a = 0x02C then 0x00000009 else 0) ∧
    t.statusWord = 0 ∧ t.irq = false ∧ t.pend = none ∧
    t.md5 = ⟨⟨0x67452301, 0xEFCDAB89, 0x98BADCFE, 0x10325476⟩, 0, []⟩ ∧
    t.buf.size = s.buf.size ∧ (s.pend = none → t.buf = s.buf)

/-- R160, R161: a soft reset and a hardware reset abort a pending command in the same way. An AES command that would pass its
checks leaves its destination region unspecified and every other byte of BUF as it was. Where a check would fail, the
destination region out of bounds among them, and for any other word, BUF is unchanged. (The unspecified bytes are the
model's free values, log entry 5; that a failed length or source check leaves no region either is deduced, log entry 6;
PRESETn as a level is the model's, log entry 10.) -/
def Obligations.AbortLeavesOtherBytes : Prop :=
  ∀ (s t : State) (p : Pending), s.pend = some p →
    (s.presetn = true ∧ ∃ d prot, d[31] = true ∧ t = s.transfer (.write 0x004 d 0xF prot)) ∨ t = s.drivePresetn false ∨
      (s.presetn = false ∧ t = s.drivePresetn true) →
    (∀ pad, p.word = encode (.aesCbcEnc pad) →
      let passes := (pad = true ∨ p.length % 16 = 0) ∧ p.srcOff + p.length ≤ s.buf.size ∧
        p.dstOff + encOutLen pad p.length ≤ s.buf.size
      (passes → BufSameOutside p.dstOff (encOutLen pad p.length) s t ∧
        ∀ k, k < encOutLen pad p.length → t.buf.read (p.dstOff + k) = Config.unspecByte (s.draws + k)) ∧
      (¬passes → t.buf = s.buf)) ∧
    (∀ pad, p.word = encode (.aesCbcDec pad) →
      let passes := p.length ≠ 0 ∧ p.length % 16 = 0 ∧ p.srcOff + p.length ≤ s.buf.size ∧
        p.dstOff + p.length ≤ s.buf.size
      (passes → BufSameOutside p.dstOff p.length s t ∧
        ∀ k, k < p.length → t.buf.read (p.dstOff + k) = Config.unspecByte (s.draws + k)) ∧
      (¬passes → t.buf = s.buf)) ∧
    ((∀ pad, p.word ≠ encode (.aesCbcEnc pad) ∧ p.word ≠ encode (.aesCbcDec pad)) → t.buf = s.buf)

/-- R160: a transfer made while PRESETn = 0 changes no register and no byte of BUF, and read data is undefined: a fresh free
value from every offset, which moves the count of draws on (the model's form of it: log entries 4 and 12). PSLVERR follows
R37 there (deduced: log entry 9), and `resp` records the answer (log entry 11). -/
def Obligations.TransfersInResetAreIgnored : Prop :=
  ∀ s : State, s.presetn = false →
    (∀ (a : Addr) (d : Word) (strb : BitVec 4) (prot : BitVec 3), ∃ slverr : Bool,
      (slverr = true ↔ a.toNat % 4 ≠ 0 ∨ (a ∈ [(0x004 : Addr), 0x008, 0x00C, 0x030] ∧ strb ≠ 0xF)) ∧
      s.transfer (.write a d strb prot) = s.answered (.wrote slverr)) ∧
    ∀ (a : Addr) (prot : BitVec 3), ∃ slverr : Bool, (slverr = true ↔ a.toNat % 4 ≠ 0) ∧
      s.transfer (.read a prot) =
        { s with resp := some (.read (Config.unspecWord s.draws) slverr), draws := s.draws + 1 }

/-! ### Control and checksum commands (40_control.md, 42_checksum.md) -/

/-- R65: NOP completes with DONE = 1, ERR = 0 and changes no data state; its word is 0 and every other word with OP = 0x00
raises ILLEGAL_COMMAND; written while BUSY = 1 it is dropped and sets WBUSY; from reset, `cmd NOP; poll; rd STATUS` reads
0x00000002, however many reads of STATUS the poll takes. (The schedule of turns is the model's: log entries 1 and 2.) -/
def Obligations.NopOnlyCompletes : Prop :=
  (∀ (s : State) (p : Pending), s.pend = some p →
    Completes .nop s fun t => t.CompletedWith none ∧ Frame [] s t) ∧
  encode .nop = 0x00000000 ∧
  (∀ (s : State) (p : Pending) (rest : List Turn), s.presetn = true → s.pend = some p →
    s.schedule = .engine :: rest ∨ (s.schedule = [] ∧ rest = []) → p.word.extractLsb' 0 8 = 0 → p.word ≠ 0 →
    step s = .next ({ s with schedule := rest }.complete (some .illegalCommand))) ∧
  (∀ s : State, s.presetn = true → s.busy = true →
    s.transfer (cmdLine .nop) = { s with wbusy := true, resp := some (.wrote false) }) ∧
  ∀ n, ∃ t, Sys2Proof.core.run (n + 4)
      { State.reset with schedule := .bus (cmdLine .nop) :: poll n ++ [.bus (rd 0x008)] } = .next t ∧
    t.resp = some (.read 0x00000002 false)

/-- R83, R84, R85: CRC8_IVENC writes the CRC-8 of the 16 IVENC bytes to CHK.CRC; CRC8_BUF and LRC_BUF on a region that is in
bounds, the empty region included, write CHK.CRC or CHK.LRC from the region's bytes; each changes nothing else. -/
def Obligations.ChecksumResults : Prop :=
  ∀ (s : State) (p : Pending), s.pend = some p →
    (Completes .crc8Ivenc s fun t => t.CompletedWith none ∧ Frame [.chkCrc] s t ∧
      t.chk.crc = crc8 s.crccfg s.ivenc.toList) ∧
    (p.srcOff + p.length ≤ s.buf.size →
      (Completes .crc8Buf s fun t => t.CompletedWith none ∧ Frame [.chkCrc] s t ∧
        t.chk.crc = crc8 s.crccfg (s.buf.readBytes p.srcOff p.length)) ∧
      (Completes .lrcBuf s fun t => t.CompletedWith none ∧ Frame [.chkLrc] s t ∧
        t.chk.lrc = lrc (s.buf.readBytes p.srcOff p.length)))

/-- R63, R133: CRC8_BUF, LRC_BUF and MD5_UPDATE with a source region out of bounds, the sum taken exactly and not modulo
2^32, raise BOUNDS and change only STATUS. -/
def Obligations.SourceOutOfBoundsChangesOnlyStatus : Prop :=
  ∀ (s : State) (p : Pending), s.pend = some p → s.buf.size < p.src.toNat + p.len.toNat →
    ∀ i ∈ [Instr.crc8Buf, .lrcBuf, .md5Update],
      Completes i s fun t => t.CompletedWith (some .bounds) ∧ Frame [] s t

/-- R86, R82: GCHK_IVENC writes G1, LRC and G2 of IVENC and nothing else. Bit `7 - j` of G1 is bit 3 of byte `j` XOR bit 3 of
the byte before it, GPREV0 standing before byte 0; G2 goes on from byte 7. -/
def Obligations.GchkIvencResult : Prop :=
  ∀ (s : State) (p : Pending), s.pend = some p →
    Completes .gchkIvenc s fun t =>
      t.CompletedWith none ∧ Frame [.chkG1, .chkLrc, .chkG2] s t ∧
      t.chk.lrc = lrc s.ivenc.toList ∧
      t.chk.g1.getLsbD 7 = (s.g1cfg.gprev0 ^^ s.ivenc[0][3]) ∧
      (∀ j (h : j < 7), t.chk.g1.getLsbD (6 - j) = (s.ivenc[j][3] ^^ s.ivenc[j + 1][3])) ∧
      ∀ j (h : j < 8), t.chk.g2.getLsbD (7 - j) = (s.ivenc[j + 7][3] ^^ s.ivenc[j + 8][3])

/-- R87: VERIFY_G0 writes the recomputed CRC to CHK.CRC whether or not it matches, and reports IV_CHECK_ERROR exactly when it
differs from CHKREF.CRC. -/
def Obligations.VerifyG0Outcome : Prop :=
  ∀ (s : State) (p : Pending), s.pend = some p →
    let c := crc8 s.crccfg s.ivenc.toList
    (c = s.chkref.crc → Completes .verifyG0 s fun t =>
      t.CompletedWith none ∧ Frame [.chkCrc] s t ∧ t.chk.crc = c) ∧
    (c ≠ s.chkref.crc → Completes .verifyG0 s fun t =>
      t.CompletedWith (some .ivCheckError) ∧ Frame [.chkCrc] s t ∧ t.chk.crc = c)

/-- R88: VERIFY_G1 writes the recomputed G1, LRC and G2 whether or not they match, and reports IV_CHECK_ERROR exactly when one
differs from CHKREF; CHKREF.CRC is not read. -/
def Obligations.VerifyG1Outcome : Prop :=
  ∀ (s : State) (p : Pending), s.pend = some p →
    let g := gcheck s.ivenc s.g1cfg.gprev0
    let l := lrc s.ivenc.toList
    let written (t : State) := Frame [.chkG1, .chkLrc, .chkG2] s t ∧ t.chk.g1 = g.1 ∧ t.chk.lrc = l ∧ t.chk.g2 = g.2
    (g.1 = s.chkref.g1 ∧ g.2 = s.chkref.g2 ∧ l = s.chkref.lrc → Completes .verifyG1 s fun t =>
      t.CompletedWith none ∧ written t) ∧
    (¬(g.1 = s.chkref.g1 ∧ g.2 = s.chkref.g2 ∧ l = s.chkref.lrc) → Completes .verifyG1 s fun t =>
      t.CompletedWith (some .ivCheckError) ∧ written t)

/-! ### MD5 commands (43_md5.md) -/

/-- R93, R94, R95: MD5_INIT makes the context initial, MD5_UPDATE absorbs an in-bounds region, the empty one leaving M as it
is, and MD5_UPDATE_SUMB absorbs the 32 bytes of SUMB; each changes only M. -/
def Obligations.Md5ContextCommands : Prop :=
  ∀ (s : State) (p : Pending), s.pend = some p →
    (Completes .md5Init s fun t => t.CompletedWith none ∧ Frame [.md5] s t ∧
      t.md5 = ⟨⟨0x67452301, 0xEFCDAB89, 0x98BADCFE, 0x10325476⟩, 0, []⟩) ∧
    (p.srcOff + p.length ≤ s.buf.size → Completes .md5Update s fun t => t.CompletedWith none ∧ Frame [.md5] s t ∧
      t.md5 = s.md5.absorb (s.buf.readBytes p.srcOff p.length) ∧ (p.length = 0 → s.md5.Legal → t.md5 = s.md5)) ∧
    (Completes .md5UpdateSumb s fun t => t.CompletedWith none ∧ Frame [.md5] s t ∧
      t.md5 = s.md5.absorb s.sumb.toList)

/-- R96: MD5_FINAL writes the digest of M to DIGEST or to SUM by DEST, the other array unchanged, and makes M initial. -/
def Obligations.Md5FinalResult : Prop :=
  ∀ (s : State) (p : Pending), s.pend = some p →
    (Completes (.md5Final .digest) s fun t => t.CompletedWith none ∧ Frame [.digest, .md5] s t ∧
      t.digest.toList = s.md5.finalise ∧ t.md5 = Md5Context.init) ∧
    (Completes (.md5Final .sum) s fun t => t.CompletedWith none ∧ Frame [.sum, .md5] s t ∧
      t.sum.toList = s.md5.finalise ∧ t.md5 = Md5Context.init)

/-- R97, R137: CMP_DIGEST compares all 16 bytes of DIGEST with REF, reports CHECKSUM_WRONG exactly on a difference, and
changes only STATUS. -/
def Obligations.CmpDigestOutcome : Prop :=
  ∀ (s : State) (p : Pending), s.pend = some p →
    ((∀ i (h : i < 16), s.digest[i] = s.ref[i]) → Completes .cmpDigest s fun t =>
      t.CompletedWith none ∧ Frame [] s t) ∧
    ((∃ i, ∃ h : i < 16, s.digest[i] ≠ s.ref[i]) → Completes .cmpDigest s fun t =>
      t.CompletedWith (some .checksumWrong) ∧ Frame [] s t)

/-! ### Key and IV derivation (44_key_derivation.md) -/

/-- R101, R102: KD_HEX writes the 32 hex characters of SUM to SUMB, high nibble first, `A` to `F` or `a` to `f` by CTRL.HEXLC;
KD_UUID interleaves SUM with UUID reversed into SUMB; each changes nothing else. -/
def Obligations.MaskMaterialResults : Prop :=
  ∀ (s : State) (p : Pending), s.pend = some p →
    let char (v : Nat) : Nat := if v < 10 then 0x30 + v else if s.ctrl.hexlc then 0x61 + (v - 10) else 0x41 + (v - 10)
    (Completes .kdHex s fun t => t.CompletedWith none ∧ Frame [.sumb] s t ∧
      ∀ i (h : i < 16), t.sumb[2 * i].toNat = char (s.sum[i].toNat / 16) ∧
        t.sumb[2 * i + 1].toNat = char (s.sum[i].toNat % 16)) ∧
    (Completes .kdUuid s fun t => t.CompletedWith none ∧ Frame [.sumb] s t ∧
      ∀ i (h : i < 16), t.sumb[2 * i] = s.sum[i] ∧ t.sumb[2 * i + 1] = s.uuid[15 - i])

/-- R103, R104: KD_G0 writes `KEY XOR SUMB` to RKEY, SUMB complemented when ROLE = 1; KD_G1 writes RKEY by the parity of each
SUMB byte, complementing the stored-key byte as G1CFG says for ROLE and parity; each changes nothing else. -/
def Obligations.KeyDerivationResults : Prop :=
  ∀ (s : State) (p : Pending), s.pend = some p →
    let oddNot := if s.ctrl.role then s.g1cfg.r1OddNot else s.g1cfg.r0OddNot
    let evenNot := if s.ctrl.role then s.g1cfg.r1EvenNot else s.g1cfg.r0EvenNot
    (Completes .kdG0 s fun t => t.CompletedWith none ∧ Frame [.rkey] s t ∧
      ∀ i (h : i < 32), t.rkey[i] = s.key[i] ^^^ (if s.ctrl.role then ~~~s.sumb[i] else s.sumb[i])) ∧
    (Completes .kdG1 s fun t => t.CompletedWith none ∧ Frame [.rkey] s t ∧
      ∀ i (h : i < 32),
        (parity8 s.sumb[i] = true → t.rkey[i] = (if oddNot then ~~~s.key[i] else s.key[i]) ^^^ gray8 s.sumb[i]) ∧
        (parity8 s.sumb[i] = false → t.rkey[i] = brev8 (if evenNot then ~~~s.key[i] else s.key[i]) ^^^ s.sumb[i]))

/-- R105 to R108: the mask commands write IVENC, the unmask commands write IV, each byte as its rule says, and nothing else
changes. -/
def Obligations.IvMaskResults : Prop :=
  ∀ (s : State) (p : Pending), s.pend = some p →
    (Completes .ivMaskG0 s fun t => t.CompletedWith none ∧ Frame [.ivenc] s t ∧
      ∀ i (h : i < 16), t.ivenc[i] = s.iv[i] ^^^ s.sum[i]) ∧
    (Completes .ivMaskG1 s fun t => t.CompletedWith none ∧ Frame [.ivenc] s t ∧
      ∀ i (h : i < 16), t.ivenc[i] = ~~~s.iv[i] ^^^ s.sum[i]) ∧
    (Completes .ivUnmaskG0 s fun t => t.CompletedWith none ∧ Frame [.iv] s t ∧
      ∀ i (h : i < 16), t.iv[i] = s.ivenc[i] ^^^ s.sum[i]) ∧
    (Completes .ivUnmaskG1 s fun t => t.CompletedWith none ∧ Frame [.iv] s t ∧
      ∀ i (h : i < 16), t.iv[i] = ~~~(s.ivenc[i] ^^^ s.sum[i]))

/-! ### AES commands (45_aes_cbc_pkcs7.md) -/

/-- R119, R64: AES_CBC_ENC whose checks pass writes the CBC ciphertext of the source region as it was before the command,
padded when PAD = 1, to the destination region, the length to OUTLEN, and nothing else. -/
def Obligations.AesCbcEncResult : Prop :=
  ∀ (s : State) (p : Pending) (pad : Bool), s.pend = some p → (pad = true ∨ p.length % 16 = 0) →
    p.srcOff + p.length ≤ s.buf.size → p.dstOff + encOutLen pad p.length ≤ s.buf.size → s.buf.size ≤ 4096 →
    let x := s.buf.readBytes p.srcOff p.length
    let c := cbcEnc s.rkey s.iv (if pad then padBytes x else x)
    Completes (.aesCbcEnc pad) s fun t => t.CompletedWith none ∧ Frame [.buf, .outlen] s t ∧
      c.length = encOutLen pad p.length ∧ BufHolds t p.dstOff c ∧
      BufSameOutside p.dstOff (encOutLen pad p.length) s t ∧ t.outlen.toNat = encOutLen pad p.length

/-- R120, R64, R135: AES_CBC_DEC whose checks pass. With PAD = 0 it writes the decrypted bytes and OUTLEN = LEN; with PAD = 1
the same with OUTLEN = LEN less the pad where the padding is right, and where it is wrong it zeroes the destination
region, sets OUTLEN to 0 and raises PADDING_WRONG. -/
def Obligations.AesCbcDecResult : Prop :=
  ∀ (s : State) (p : Pending), s.pend = some p → p.length ≠ 0 → p.length % 16 = 0 →
    p.srcOff + p.length ≤ s.buf.size → p.dstOff + p.length ≤ s.buf.size → s.buf.size ≤ 4096 →
    let y := cbcDec s.rkey s.iv (s.buf.readBytes p.srcOff p.length)
    let written (t : State) (x : List Byte) := Frame [.buf, .outlen] s t ∧ x.length = p.length ∧ BufHolds t p.dstOff x ∧
      BufSameOutside p.dstOff p.length s t
    (Completes (.aesCbcDec false) s fun t =>
      t.CompletedWith none ∧ written t y ∧ t.outlen.toNat = p.length) ∧
    (∀ q, unpad y = some q → q ≤ 16 ∧ Completes (.aesCbcDec true) s fun t =>
      t.CompletedWith none ∧ written t y ∧ t.outlen.toNat = p.length - q) ∧
    (unpad y = none → Completes (.aesCbcDec true) s fun t =>
      t.CompletedWith (some .paddingWrong) ∧ written t (List.replicate p.length 0) ∧ t.outlen = 0)

/-- R62, R119, R120, R134, R140: the checks of the AES commands in their order, length before bounds. A failed check sets
OUTLEN to 0 and leaves BUF and everything but STATUS unchanged. -/
def Obligations.AesChecksInOrder : Prop :=
  ∀ (s : State) (p : Pending), s.pend = some p →
    let fails (i : Instr) (e : ErrCode) := Completes i s fun t =>
      t.CompletedWith (some e) ∧ Frame [.outlen] s t ∧ t.outlen = 0
    (p.length % 16 ≠ 0 → fails (.aesCbcEnc false) .cipherLenWrong) ∧
    (∀ pad, p.length = 0 ∨ p.length % 16 ≠ 0 → fails (.aesCbcDec pad) .cipherLenWrong) ∧
    (∀ pad, pad = true ∨ p.length % 16 = 0 →
      s.buf.size < p.srcOff + p.length ∨ s.buf.size < p.dstOff + encOutLen pad p.length →
      fails (.aesCbcEnc pad) .bounds) ∧
    (∀ pad, p.length ≠ 0 → p.length % 16 = 0 →
      s.buf.size < p.srcOff + p.length ∨ s.buf.size < p.dstOff + p.length → fails (.aesCbcDec pad) .bounds)

/-! ### The machine as a whole -/

/-- R7, R15, R31, R32, R33, R160: every step from a legal state answers a legal state. BUF keeps its canonical form and a
legal size, the MD5 context stays legal, `BUSY = 1 ⇒ DONE = 0 ∧ ERR = 0`, the latch agrees with CMD, SRC, DST and LEN, and
while PRESETn is low every register stays at its reset value. (PRESETn as a level, and a high level that stays high doing
nothing, are the model's: log entry 10.) -/
def Obligations.StepKeepsLegalStates : Prop :=
  ∀ s t : State, s.Inv → step s = .next t → t.Inv

/-- R35: the state after reset is legal. -/
def Obligations.ResetStateIsLegal : Prop := State.reset.Inv

/-- R36, R44, R53, R68: no state, no schedule and no command word stops the machine: every step answers a next state, and a
bus turn is exactly its transfer, a turn of the pin exactly its change. (Turns are the model's: log entry 1.) -/
def Obligations.StepAlwaysAnswers : Prop :=
  ∀ s : State, (∃ t, step s = .next t) ∧
    (∀ x rest, s.schedule = .bus x :: rest → step s = .next ({ s with schedule := rest }.transfer x)) ∧
    ∀ level rest, s.schedule = .presetn level :: rest → step s = .next ({ s with schedule := rest }.drivePresetn level)

/-- R52: every command writes only the outputs its row of the table names, and STATUS; no command writes CTRL, CMD, SRC,
DST, LEN, CHKREF, CRCCFG, G1CFG, XLAT, KEY, REF or UUID. -/
def Obligations.CommandsWriteOnlyTheirOutputs : Prop :=
  ∀ (i : Instr) (s t : State), exec i s = .next t → Frame (writesOf i) s t ∧ t.pend = none ∧ t.done = true

/-- R141: errors are precise. A command that fails its length or bounds check changes nothing but STATUS, and OUTLEN for
an AES command; a failing command changes only CHK for the VERIFY commands, and BUF and OUTLEN for AES_CBC_DEC; no failing
command changes RKEY, IV, IVENC, SUM, SUMB, DIGEST, M, or an input register. -/
def Obligations.ErrorsArePrecise : Prop :=
  ∀ (i : Instr) (s t : State) (e : ErrCode), exec i s = .next t → t.err = some e →
    (e = .bounds ∨ e = .cipherLenWrong → Frame [.outlen] s t ∧ (isAes i = false → Frame [] s t)) ∧
    (e = .ivCheckError → Frame [.chkCrc, .chkG1, .chkLrc, .chkG2] s t) ∧
    (e = .checksumWrong → Frame [] s t) ∧
    (e = .paddingWrong → i = .aesCbcDec true ∧ Frame [.buf, .outlen] s t) ∧
    e ≠ .illegalCommand ∧
    SameInputs s t ∧ t.rkey = s.rkey ∧ t.iv = s.iv ∧ t.ivenc = s.ivenc ∧ t.sum = s.sum ∧ t.sumb = s.sumb ∧
    t.digest = s.digest ∧ t.md5 = s.md5

/-- R18: OUTLEN is written only by the AES commands, and is 0 when they complete with an error. -/
def Obligations.OutlenIsOfAesCommands : Prop :=
  ∀ (i : Instr) (s t : State), exec i s = .next t →
    (isAes i = false → t.outlen = s.outlen) ∧ (isAes i = true → t.err ≠ none → t.outlen = 0)

/-- R48, R170: the latency cannot be seen in the data. Whatever transfers but a soft reset the host makes between issue and
completion, the command leaves the same registers, BUF and hidden state as when it completes at once; they can change only
WBUSY. (The latency is the number of bus turns before the engine's: log entries 1 and 2.) -/
def Obligations.LatencyIsInvisible : Prop :=
  ∀ (s : State) (p : Pending) (xs : List Transfer) (rest : List Turn),
    s.presetn = true → s.pend = some p → (∀ x ∈ xs, ¬IsSoftReset x) →
    s.schedule = xs.map Turn.bus ++ .engine :: rest →
    ∃ t u, step { s with schedule := .engine :: rest } = .next t ∧
      Sys2Proof.core.run (xs.length + 1) s = .next u ∧ SameData t u ∧ u.schedule = rest

/-- R61, R68: a pending command ends: whatever turns are scheduled, after at most one step more than there are turns the
machine has been in a state with BUSY = 0. (This is the weak fairness of R61 as the model has it: log entry 2.) -/
def Obligations.PendingCommandEnds : Prop :=
  ∀ s : State, s.presetn = true → s.busy = true →
    ∃ k t, k ≤ s.schedule.length + 1 ∧ Sys2Proof.core.run k s = .next t ∧ t.busy = false

/-! ### The functions of the datapath -/

/-- R70, R71, R72, R75: the bit transforms as their rules define them, and the laws of R75. -/
def Obligations.BitTransformLaws : Prop :=
  (∀ x : Byte, parity8 x = (x[7] ^^ x[6] ^^ x[5] ^^ x[4] ^^ x[3] ^^ x[2] ^^ x[1] ^^ x[0])) ∧
  (∀ x : Byte, (gray8 x)[7] = x[7] ∧ ∀ i (h : i < 7), (gray8 x)[i] = (x[i] ^^ x[i + 1])) ∧
  (∀ x : Byte, ∀ i (h : i < 8), (brev8 x)[7 - i] = x[i]) ∧
  (∀ x : Byte, brev8 (brev8 x) = x ∧ brev8 (~~~x) = ~~~(brev8 x) ∧ parity8 (brev8 x) = parity8 x ∧
    parity8 (~~~x) = parity8 x ∧ parity8 (gray8 x) = x[0]) ∧
  (∀ x : Byte, x ≠ 0xFF → ∃ k, k < 8 ∧ gray8 x ^^^ gray8 (x + 1) = 1 <<< k) ∧
  ∀ g : Byte, gray8 (g ^^^ g >>> 1 ^^^ g >>> 2 ^^^ g >>> 3 ^^^ g >>> 4 ^^^ g >>> 5 ^^^ g >>> 6 ^^^ g >>> 7) = g ∧
    ∀ x, gray8 x = g → x = g ^^^ g >>> 1 ^^^ g >>> 2 ^^^ g >>> 3 ^^^ g >>> 4 ^^^ g >>> 5 ^^^ g >>> 6 ^^^ g >>> 7

/-- R81: the LRC is the two's-complement negation of the byte sum modulo 256: with it the sum is 0 modulo 256, and of the
empty string it is 0. -/
def Obligations.LrcCancelsByteSum : Prop :=
  (∀ data : List Byte, (lrc data).toNat = (256 - (data.map BitVec.toNat).sum % 256) % 256) ∧
  (∀ data : List Byte, ((data.map BitVec.toNat).sum + (lrc data).toNat) % 256 = 0) ∧ lrc [] = 0

/-- R80, R89: CRC-8 under any configuration. The value of the empty input, and the value after one more byte: the byte,
reflected when REFIN = 1, goes into the register by XOR, which shifts eight times by POLY, and REFOUT and XOROUT make the
result. Equal-length messages obey the affine law; and under the reset configuration the register after one more byte is
the one-byte CRC of the register XOR that byte. -/
def Obligations.Crc8IsAffine : Prop :=
  (∀ cfg : CrcCfg,
    let shift (r : Byte) : Byte := if r[7] then (r <<< 1) ^^^ cfg.poly else r <<< 1
    let result (r : Byte) : Byte := (if cfg.refout then brev8 r else r) ^^^ cfg.xorout
    let register (c : Byte) : Byte := if cfg.refout then brev8 (c ^^^ cfg.xorout) else c ^^^ cfg.xorout
    crc8 cfg [] = result cfg.init ∧
    ∀ (data : List Byte) (b : Byte), crc8 cfg (data ++ [b]) =
      result (Nat.iterate shift 8 (register (crc8 cfg data) ^^^ (if cfg.refin then brev8 b else b)))) ∧
  (∀ (cfg : CrcCfg) (a b : List Byte), a.length = b.length →
    crc8 cfg a ^^^ crc8 cfg b =
      crc8 cfg (List.zipWith (· ^^^ ·) a b) ^^^ crc8 cfg (List.replicate a.length 0)) ∧
  ∀ (data : List Byte) (b : Byte),
    crc8 CrcCfg.reset (data ++ [b]) = crc8 CrcCfg.reset [crc8 CrcCfg.reset data ^^^ b]

/-- R80, R87, R89: with POLY bit 0 set, VERIFY_G0 reports every change of one byte of an IVENC that it accepts, every
single-bit flip among them. -/
def Obligations.VerifyG0CatchesByteChange : Prop :=
  ∀ (s t : State) (i : Nat) (h : i < 16) (e : Byte),
    s.crccfg.poly[0] = true → exec .verifyG0 s = .next t → t.err = none → e ≠ 0 →
    Completes .verifyG0 { s with ivenc := s.ivenc.set i (s.ivenc[i] ^^^ e) } fun u =>
      u.CompletedWith (some .ivCheckError)

/-- R81, R88, R89: VERIFY_G1 reports every change of one byte of an IVENC that it accepts, every single-bit flip among
them. -/
def Obligations.VerifyG1CatchesByteChange : Prop :=
  ∀ (s t : State) (i : Nat) (h : i < 16) (e : Byte),
    exec .verifyG1 s = .next t → t.err = none → e ≠ 0 →
    Completes .verifyG1 { s with ivenc := s.ivenc.set i (s.ivenc[i] ^^^ e) } fun u =>
      u.CompletedWith (some .ivCheckError)

/-- R89: the G check code is affine over GF(2). -/
def Obligations.GcheckIsAffine : Prop :=
  ∀ (a b : Vector Byte 16) (p q : Bool),
    gcheck (xorBytes a b) (p ^^ q) =
      ((gcheck a p).1 ^^^ (gcheck b q).1, (gcheck a p).2 ^^^ (gcheck b q).2)

/-- R92, R99: absorbing a message in two pieces is absorbing their concatenation, from every context whose PART is shorter
than a block. -/
def Obligations.Md5AbsorbSplits : Prop :=
  ∀ (m : Md5Context) (a b : List Byte), m.part.length < 64 → (m.absorb a).absorb b = m.absorb (a ++ b)

/-- R90, R92: the streaming digest is the one-shot MD5 of the message, for every message; it has 16 bytes. -/
def Obligations.Md5StreamIsOneShot : Prop :=
  ∀ m : List Byte, (Md5Context.init.absorb m).finalise = md5 m ∧ (md5 m).length = 16

/-- R111, R112, R113: the S-box table is the affine map of the multiplicative inverse, 0 standing for its own inverse, and
the inverse table undoes it. -/
def Obligations.SboxTablesMatchDefinition : Prop :=
  (∀ x : Byte, ∃ y : Byte, ((x = 0 ∧ y = 0) ∨ gfMul x y = 1) ∧ sbox x = sboxAffine y) ∧
  ∀ x : Byte, invSbox (sbox x) = x

/-- R116: the inverse cipher inverts the cipher, for every key and every block. -/
def Obligations.AesDecryptInvertsEncrypt : Prop :=
  ∀ (key : Vector Byte 32) (x : Block), aesD key (aesE key x) = x

/-- R117, R118: decrypting a CBC encryption of whole blocks gives them back; a padded string is whole blocks, at least one,
and unpads to its own length; and on whole blocks unpad drops `q` bytes exactly when the last byte is `q`, `q` is at most
16 and the last `q` bytes all equal `q`. So a last byte above 16 and a wrong tail fail, and a last byte of 0 is accepted
and drops nothing (93_implementation_defined.md U23). -/
def Obligations.CbcAndPaddingInvert : Prop :=
  (∀ (key : Vector Byte 32) (iv : Block) (x : List Byte), x.length % 16 = 0 → cbcDec key iv (cbcEnc key iv x) = x) ∧
  (∀ x : List Byte, (padBytes x).length % 16 = 0 ∧ (padBytes x).take x.length = x ∧
    ∃ q, unpad (padBytes x) = some q ∧ 1 ≤ q ∧ q ≤ 16 ∧ (padBytes x).length = x.length + q) ∧
  ∀ y : List Byte, y.length ≠ 0 → y.length % 16 = 0 →
    (∀ q, unpad y = some q ↔ y.getLast? = some (BitVec.ofNat 8 q) ∧ q ≤ 16 ∧
      y.drop (y.length - q) = List.replicate q (BitVec.ofNat 8 q)) ∧
    (y.getLast? = some 0 → unpad y = some 0) ∧
    ∀ v : Byte, y.getLast? = some v → 16 < v.toNat → unpad y = none

/-- R123: AES_CBC_ENC with PAD and then AES_CBC_DEC with PAD, on its output and with the same RKEY and IV, gives OUTLEN the
message's length and leaves the message, then its padding, in the second destination. -/
def Obligations.EncryptThenDecryptRestores : Prop :=
  ∀ (s : State) (p : Pending) (dst : Word), s.pend = some p → s.buf.size ≤ 4096 →
    p.srcOff + p.length ≤ s.buf.size → p.dstOff + encOutLen true p.length ≤ s.buf.size →
    dst.toNat + encOutLen true p.length ≤ s.buf.size →
    ∃ t u, exec (.aesCbcEnc true) s = .next t ∧
      exec (.aesCbcDec true)
        { t with pend := some ⟨encode (.aesCbcDec true), p.dst, dst, BitVec.ofNat 32 (encOutLen true p.length)⟩ } =
        .next u ∧
      u.CompletedWith none ∧ u.outlen.toNat = p.length ∧
      BufHolds u dst.toNat (padBytes (s.buf.readBytes p.srcOff p.length))

/-- R109: unmasking undoes masking while SUM is unchanged, whatever IV holds in between; KD_G0 with ROLE = 1 gives the
complement of ROLE = 0, and so does KD_G1 under the reset G1CFG; and for fixed SUMB, ROLE and G1CFG two distinct
stored keys never give the same RKEY. -/
def Obligations.DerivationInversesAndSymmetry : Prop :=
  (∀ s t u : State, ∀ p : Pending, ∀ v : Vector Byte 16,
    (exec .ivMaskG0 s = .next t → exec .ivUnmaskG0 { t with pend := some p, iv := v } = .next u → u.iv = s.iv) ∧
    (exec .ivMaskG1 s = .next t → exec .ivUnmaskG1 { t with pend := some p, iv := v } = .next u → u.iv = s.iv)) ∧
  (∀ s t u : State, ∀ i : Instr, i = .kdG0 ∨ (i = .kdG1 ∧ s.g1cfg = G1Cfg.reset) →
    exec i { s with ctrl := { s.ctrl with role := false } } = .next t →
    exec i { s with ctrl := { s.ctrl with role := true } } = .next u →
    ∀ j (h : j < 32), u.rkey[j] = ~~~t.rkey[j]) ∧
  ∀ s t u : State, ∀ k : Vector Byte 32, ∀ i : Instr, i = .kdG0 ∨ i = .kdG1 →
    exec i s = .next t → exec i { s with key := k } = .next u → t.rkey = u.rkey → k = s.key
end

