-- ==== Sys2Proof/Laws/Memory.lean ====
section
/-! SUPPORT. The laws of BUF: a read after a write, what a write leaves alone, and that every operation over BUF keeps
its canonical form `Memory.wf`. -/

namespace Sys2Proof.Machine

/-! ### Cells -/

theorem cellsGet_cellsSet (cells : List Host.Cell) (a b : Nat) (v : Byte) :
    cellsGet (cellsSet cells a v) b = if b = a then some v else cellsGet cells b := by
  induction cells with
  | nil => simp [cellsSet, cellsGet, eq_comm]
  | cons x rest ih =>
    obtain ⟨k, w⟩ := x
    by_cases h1 : a < k
    · simp only [cellsSet, h1, if_true, cellsGet]
      by_cases h : b = a
      · simp [h]
      · simp [h, Ne.symm h]
    · by_cases h2 : a = k
      · subst h2
        simp only [cellsSet, lt_irrefl, if_false, if_true, cellsGet]
        by_cases h : b = a
        · simp [h]
        · simp [h, Ne.symm h]
      · simp only [cellsSet, h1, h2, if_false, cellsGet, ih]
        by_cases h : b = a
        · subst h; simp [Ne.symm h2]
        · simp [h]

/-- Every address of a cell list after a write is an old one or the one written. -/
theorem mem_cellsSet (cells : List Host.Cell) (a : Nat) (v : Byte) (x : Host.Cell) (h : x ∈ cellsSet cells a v) :
    x ∈ cells ∨ x = (a, v) := by
  induction cells with
  | nil => simpa [cellsSet] using h
  | cons y rest ih =>
    obtain ⟨k, w⟩ := y
    simp only [cellsSet] at h
    split_ifs at h with h1 h2
    · rcases List.mem_cons.1 h with h | h
      · exact .inr h
      · exact .inl h
    · rcases List.mem_cons.1 h with h | h
      · exact .inr h
      · exact .inl (List.mem_cons_of_mem _ h)
    · rcases List.mem_cons.1 h with h | h
      · exact .inl (h ▸ List.mem_cons_self)
      · exact (ih h).imp (List.mem_cons_of_mem _) id

theorem cellsSet_rising (cells : List Host.Cell) (a : Nat) (v : Byte)
    (h : cells.Pairwise fun x y => x.1 < y.1) : (cellsSet cells a v).Pairwise fun x y => x.1 < y.1 := by
  induction cells with
  | nil => simp [cellsSet]
  | cons y rest ih =>
    obtain ⟨k, w⟩ := y
    obtain ⟨hk, hr⟩ := List.pairwise_cons.1 h
    simp only [cellsSet]
    split_ifs with h1 h2
    · refine List.pairwise_cons.2 ⟨fun x hx => ?_, h⟩
      rcases List.mem_cons.1 hx with rfl | hx
      · exact h1
      · exact h1.trans (hk x hx)
    · subst h2
      exact List.pairwise_cons.2 ⟨hk, hr⟩
    · refine List.pairwise_cons.2 ⟨fun x hx => ?_, ih hr⟩
      rcases mem_cellsSet rest a v x hx with hx | rfl
      · exact hk x hx
      · change k < a; omega

/-! ### Reading after writing -/

@[simp] theorem Memory.write_size (m : Memory) (a : Nat) (v : Byte) : (m.write a v).size = m.size := rfl

theorem Memory.read_write (m : Memory) (a b : Nat) (v : Byte) :
    (m.write a v).read b = if b = a then v else m.read b := by
  simp only [Memory.read, Memory.write, cellsGet_cellsSet]
  split_ifs <;> rfl

@[simp] theorem Memory.read_write_same (m : Memory) (a : Nat) (v : Byte) : (m.write a v).read a = v := by
  simp [Memory.read_write]

theorem Memory.read_write_other (m : Memory) (a b : Nat) (v : Byte) (h : b ≠ a) :
    (m.write a v).read b = m.read b := by
  simp [Memory.read_write, h]

@[simp] theorem Memory.writeBytes_nil (m : Memory) (off : Nat) : m.writeBytes off [] = m := rfl

@[simp] theorem Memory.writeBytes_cons (m : Memory) (off : Nat) (v : Byte) (rest : List Byte) :
    m.writeBytes off (v :: rest) = (m.write off v).writeBytes (off + 1) rest := rfl

@[simp] theorem Memory.writeBytes_size (m : Memory) (off : Nat) (x : List Byte) :
    (m.writeBytes off x).size = m.size := by
  induction x generalizing m off with
  | nil => rfl
  | cons v rest ih => simp [ih]

theorem Memory.read_writeBytes_outside (m : Memory) (off a : Nat) (x : List Byte)
    (h : ¬(off ≤ a ∧ a < off + x.length)) : (m.writeBytes off x).read a = m.read a := by
  induction x generalizing m off with
  | nil => rfl
  | cons v rest ih =>
    simp only [List.length_cons] at h
    rw [Memory.writeBytes_cons, ih _ _ (by omega), Memory.read_write_other _ _ _ _ (by omega)]

theorem Memory.read_writeBytes_inside (m : Memory) (off k : Nat) (x : List Byte) (h : k < x.length) :
    (m.writeBytes off x).read (off + k) = x.getD k 0 := by
  induction x generalizing m off k with
  | nil => simp at h
  | cons v rest ih =>
    rw [Memory.writeBytes_cons]
    cases k with
    | zero =>
      rw [Memory.read_writeBytes_outside _ _ _ _ (by omega)]
      simp
    | succ k =>
      simp only [List.length_cons] at h
      have := ih (m.write off v) (off + 1) k (by omega)
      rw [show off + (k + 1) = off + 1 + k by omega, this]
      simp

@[simp] theorem Memory.readBytes_length (m : Memory) (off n : Nat) : (m.readBytes off n).length = n := by
  simp [Memory.readBytes]

theorem Memory.readBytes_getD (m : Memory) (off n k : Nat) (h : k < n) :
    (m.readBytes off n).getD k 0 = m.read (off + k) := by
  simp [Memory.readBytes, List.getD, h]

/-! ### The canonical form -/

theorem Memory.wf_iff (m : Memory) : m.wf = true ↔
    (16 ≤ m.size ∧ m.size ≤ 4096 ∧ m.size % 16 = 0) ∧ (m.cells.Pairwise fun x y => x.1 < y.1) ∧
    ∀ x ∈ m.cells, x.1 < m.size := by
  simp [Memory.wf, and_assoc]

theorem Memory.wf_write (m : Memory) (a : Nat) (v : Byte) (h : m.wf = true) (ha : a < m.size) :
    (m.write a v).wf = true := by
  rw [Memory.wf_iff] at h ⊢
  obtain ⟨h1, h2, h3⟩ := h
  refine ⟨h1, cellsSet_rising _ _ _ h2, fun x hx => ?_⟩
  rcases mem_cellsSet _ _ _ _ hx with hx | rfl
  · exact h3 x hx
  · exact ha

theorem Memory.wf_writeBytes (m : Memory) (off : Nat) (x : List Byte) (h : m.wf = true)
    (hx : off + x.length ≤ m.size) : (m.writeBytes off x).wf = true := by
  induction x generalizing m off with
  | nil => exact h
  | cons v rest ih =>
    simp only [List.length_cons] at hx
    rw [Memory.writeBytes_cons]
    exact ih _ _ (Memory.wf_write _ _ _ h (by omega)) (by simp only [Memory.write_size]; omega)

/-- A write of a word with strobes: what each byte reads as after it. -/
theorem Memory.read_writeLanes (m : Memory) (k : Nat) (d : Word) (strb : BitVec 4) (a : Nat) :
    (m.writeLanes k d strb).read a =
      if k ≤ a ∧ a < k + 4 ∧ strb.getLsbD (a - k) = true then lane d (a - k) else m.read a := by
  simp only [Memory.writeLanes, show List.range 4 = [0, 1, 2, 3] from rfl, List.foldl_cons, List.foldl_nil]
  by_cases h : k ≤ a ∧ a < k + 4
  · obtain ⟨b, hb, rfl⟩ : ∃ b, b < 4 ∧ a = k + b := ⟨a - k, by omega, by omega⟩
    have : b = 0 ∨ b = 1 ∨ b = 2 ∨ b = 3 := by omega
    rcases this with rfl | rfl | rfl | rfl <;>
      (split_ifs <;> simp_all [Memory.read_write])
  · have e0 : a ≠ k := by omega
    have e : ∀ b < 4, a ≠ k + b := fun b hb => by omega
    have hr : ¬(k ≤ a ∧ a < k + 4 ∧ strb.getLsbD (a - k) = true) := fun ⟨h1, h2, _⟩ => h ⟨h1, h2⟩
    rw [if_neg hr]
    split_ifs <;> simp [Memory.read_write, e0, e 1 (by omega), e 2 (by omega), e 3 (by omega)]

@[simp] theorem Memory.writeLanes_size (m : Memory) (k : Nat) (d : Word) (strb : BitVec 4) :
    (m.writeLanes k d strb).size = m.size := by
  simp only [Memory.writeLanes, show List.range 4 = [0, 1, 2, 3] from rfl, List.foldl_cons, List.foldl_nil]
  split_ifs <;> simp

theorem Memory.wf_writeLanes (m : Memory) (k : Nat) (d : Word) (strb : BitVec 4) (h : m.wf = true)
    (hk : k + 4 ≤ m.size) : (m.writeLanes k d strb).wf = true := by
  have step (m' : Memory) (hs : m'.size = m.size) (hm : m'.wf = true) (b : Nat) (hb : b < 4) :
      (if strb.getLsbD b = true then m'.write (k + b) (lane d b) else m').wf = true ∧
      (if strb.getLsbD b = true then m'.write (k + b) (lane d b) else m').size = m.size := by
    split_ifs
    · exact ⟨Memory.wf_write _ _ _ hm (by omega), hs⟩
    · exact ⟨hm, hs⟩
  simp only [Memory.writeLanes, show List.range 4 = [0, 1, 2, 3] from rfl, List.foldl_cons, List.foldl_nil]
  have s0 := step m rfl h 0 (by omega)
  have s1 := step _ s0.2 s0.1 1 (by omega)
  have s2 := step _ s1.2 s1.1 2 (by omega)
  exact (step _ s2.2 s2.1 3 (by omega)).1

theorem Memory.wf_powerOn : Memory.powerOn.wf = true := by decide

end Sys2Proof.Machine
end

