-- ==== Sys2Proof/Laws/State.lean ====
section
/-! SUPPORT. For each named update of the state, one lemma per field: what the update writes there, or that it keeps it.
No later proof unfolds a record update. -/

namespace Sys2Proof.Machine

section
variable (s : State)

/-! ### setOutlen -/

@[simp] theorem State.setOutlen_ctrl (n : Nat) : (s.setOutlen n).ctrl = s.ctrl := rfl
@[simp] theorem State.setOutlen_done (n : Nat) : (s.setOutlen n).done = s.done := rfl
@[simp] theorem State.setOutlen_err (n : Nat) : (s.setOutlen n).err = s.err := rfl
@[simp] theorem State.setOutlen_wbusy (n : Nat) : (s.setOutlen n).wbusy = s.wbusy := rfl
@[simp] theorem State.setOutlen_cmd (n : Nat) : (s.setOutlen n).cmd = s.cmd := rfl
@[simp] theorem State.setOutlen_src (n : Nat) : (s.setOutlen n).src = s.src := rfl
@[simp] theorem State.setOutlen_dst (n : Nat) : (s.setOutlen n).dst = s.dst := rfl
@[simp] theorem State.setOutlen_len (n : Nat) : (s.setOutlen n).len = s.len := rfl
@[simp] theorem State.setOutlen_outlen (n : Nat) : (s.setOutlen n).outlen = BitVec.ofNat 32 n := rfl
@[simp] theorem State.setOutlen_chk (n : Nat) : (s.setOutlen n).chk = s.chk := rfl
@[simp] theorem State.setOutlen_chkref (n : Nat) : (s.setOutlen n).chkref = s.chkref := rfl
@[simp] theorem State.setOutlen_crccfg (n : Nat) : (s.setOutlen n).crccfg = s.crccfg := rfl
@[simp] theorem State.setOutlen_g1cfg (n : Nat) : (s.setOutlen n).g1cfg = s.g1cfg := rfl
@[simp] theorem State.setOutlen_xlatX (n : Nat) : (s.setOutlen n).xlatX = s.xlatX := rfl
@[simp] theorem State.setOutlen_key (n : Nat) : (s.setOutlen n).key = s.key := rfl
@[simp] theorem State.setOutlen_rkey (n : Nat) : (s.setOutlen n).rkey = s.rkey := rfl
@[simp] theorem State.setOutlen_iv (n : Nat) : (s.setOutlen n).iv = s.iv := rfl
@[simp] theorem State.setOutlen_ivenc (n : Nat) : (s.setOutlen n).ivenc = s.ivenc := rfl
@[simp] theorem State.setOutlen_sum (n : Nat) : (s.setOutlen n).sum = s.sum := rfl
@[simp] theorem State.setOutlen_digest (n : Nat) : (s.setOutlen n).digest = s.digest := rfl
@[simp] theorem State.setOutlen_ref (n : Nat) : (s.setOutlen n).ref = s.ref := rfl
@[simp] theorem State.setOutlen_uuid (n : Nat) : (s.setOutlen n).uuid = s.uuid := rfl
@[simp] theorem State.setOutlen_sumb (n : Nat) : (s.setOutlen n).sumb = s.sumb := rfl
@[simp] theorem State.setOutlen_buf (n : Nat) : (s.setOutlen n).buf = s.buf := rfl
@[simp] theorem State.setOutlen_md5 (n : Nat) : (s.setOutlen n).md5 = s.md5 := rfl
@[simp] theorem State.setOutlen_pend (n : Nat) : (s.setOutlen n).pend = s.pend := rfl
@[simp] theorem State.setOutlen_presetn (n : Nat) : (s.setOutlen n).presetn = s.presetn := rfl
@[simp] theorem State.setOutlen_schedule (n : Nat) : (s.setOutlen n).schedule = s.schedule := rfl
@[simp] theorem State.setOutlen_resp (n : Nat) : (s.setOutlen n).resp = s.resp := rfl
@[simp] theorem State.setOutlen_draws (n : Nat) : (s.setOutlen n).draws = s.draws := rfl

/-! ### setChkCrc -/

@[simp] theorem State.setChkCrc_ctrl (c : Byte) : (s.setChkCrc c).ctrl = s.ctrl := rfl
@[simp] theorem State.setChkCrc_done (c : Byte) : (s.setChkCrc c).done = s.done := rfl
@[simp] theorem State.setChkCrc_err (c : Byte) : (s.setChkCrc c).err = s.err := rfl
@[simp] theorem State.setChkCrc_wbusy (c : Byte) : (s.setChkCrc c).wbusy = s.wbusy := rfl
@[simp] theorem State.setChkCrc_cmd (c : Byte) : (s.setChkCrc c).cmd = s.cmd := rfl
@[simp] theorem State.setChkCrc_src (c : Byte) : (s.setChkCrc c).src = s.src := rfl
@[simp] theorem State.setChkCrc_dst (c : Byte) : (s.setChkCrc c).dst = s.dst := rfl
@[simp] theorem State.setChkCrc_len (c : Byte) : (s.setChkCrc c).len = s.len := rfl
@[simp] theorem State.setChkCrc_outlen (c : Byte) : (s.setChkCrc c).outlen = s.outlen := rfl
@[simp] theorem State.setChkCrc_chk (c : Byte) : (s.setChkCrc c).chk = { s.chk with crc := c } := rfl
@[simp] theorem State.setChkCrc_chkref (c : Byte) : (s.setChkCrc c).chkref = s.chkref := rfl
@[simp] theorem State.setChkCrc_crccfg (c : Byte) : (s.setChkCrc c).crccfg = s.crccfg := rfl
@[simp] theorem State.setChkCrc_g1cfg (c : Byte) : (s.setChkCrc c).g1cfg = s.g1cfg := rfl
@[simp] theorem State.setChkCrc_xlatX (c : Byte) : (s.setChkCrc c).xlatX = s.xlatX := rfl
@[simp] theorem State.setChkCrc_key (c : Byte) : (s.setChkCrc c).key = s.key := rfl
@[simp] theorem State.setChkCrc_rkey (c : Byte) : (s.setChkCrc c).rkey = s.rkey := rfl
@[simp] theorem State.setChkCrc_iv (c : Byte) : (s.setChkCrc c).iv = s.iv := rfl
@[simp] theorem State.setChkCrc_ivenc (c : Byte) : (s.setChkCrc c).ivenc = s.ivenc := rfl
@[simp] theorem State.setChkCrc_sum (c : Byte) : (s.setChkCrc c).sum = s.sum := rfl
@[simp] theorem State.setChkCrc_digest (c : Byte) : (s.setChkCrc c).digest = s.digest := rfl
@[simp] theorem State.setChkCrc_ref (c : Byte) : (s.setChkCrc c).ref = s.ref := rfl
@[simp] theorem State.setChkCrc_uuid (c : Byte) : (s.setChkCrc c).uuid = s.uuid := rfl
@[simp] theorem State.setChkCrc_sumb (c : Byte) : (s.setChkCrc c).sumb = s.sumb := rfl
@[simp] theorem State.setChkCrc_buf (c : Byte) : (s.setChkCrc c).buf = s.buf := rfl
@[simp] theorem State.setChkCrc_md5 (c : Byte) : (s.setChkCrc c).md5 = s.md5 := rfl
@[simp] theorem State.setChkCrc_pend (c : Byte) : (s.setChkCrc c).pend = s.pend := rfl
@[simp] theorem State.setChkCrc_presetn (c : Byte) : (s.setChkCrc c).presetn = s.presetn := rfl
@[simp] theorem State.setChkCrc_schedule (c : Byte) : (s.setChkCrc c).schedule = s.schedule := rfl
@[simp] theorem State.setChkCrc_resp (c : Byte) : (s.setChkCrc c).resp = s.resp := rfl
@[simp] theorem State.setChkCrc_draws (c : Byte) : (s.setChkCrc c).draws = s.draws := rfl

/-! ### setChkLrc -/

@[simp] theorem State.setChkLrc_ctrl (l : Byte) : (s.setChkLrc l).ctrl = s.ctrl := rfl
@[simp] theorem State.setChkLrc_done (l : Byte) : (s.setChkLrc l).done = s.done := rfl
@[simp] theorem State.setChkLrc_err (l : Byte) : (s.setChkLrc l).err = s.err := rfl
@[simp] theorem State.setChkLrc_wbusy (l : Byte) : (s.setChkLrc l).wbusy = s.wbusy := rfl
@[simp] theorem State.setChkLrc_cmd (l : Byte) : (s.setChkLrc l).cmd = s.cmd := rfl
@[simp] theorem State.setChkLrc_src (l : Byte) : (s.setChkLrc l).src = s.src := rfl
@[simp] theorem State.setChkLrc_dst (l : Byte) : (s.setChkLrc l).dst = s.dst := rfl
@[simp] theorem State.setChkLrc_len (l : Byte) : (s.setChkLrc l).len = s.len := rfl
@[simp] theorem State.setChkLrc_outlen (l : Byte) : (s.setChkLrc l).outlen = s.outlen := rfl
@[simp] theorem State.setChkLrc_chk (l : Byte) : (s.setChkLrc l).chk = { s.chk with lrc := l } := rfl
@[simp] theorem State.setChkLrc_chkref (l : Byte) : (s.setChkLrc l).chkref = s.chkref := rfl
@[simp] theorem State.setChkLrc_crccfg (l : Byte) : (s.setChkLrc l).crccfg = s.crccfg := rfl
@[simp] theorem State.setChkLrc_g1cfg (l : Byte) : (s.setChkLrc l).g1cfg = s.g1cfg := rfl
@[simp] theorem State.setChkLrc_xlatX (l : Byte) : (s.setChkLrc l).xlatX = s.xlatX := rfl
@[simp] theorem State.setChkLrc_key (l : Byte) : (s.setChkLrc l).key = s.key := rfl
@[simp] theorem State.setChkLrc_rkey (l : Byte) : (s.setChkLrc l).rkey = s.rkey := rfl
@[simp] theorem State.setChkLrc_iv (l : Byte) : (s.setChkLrc l).iv = s.iv := rfl
@[simp] theorem State.setChkLrc_ivenc (l : Byte) : (s.setChkLrc l).ivenc = s.ivenc := rfl
@[simp] theorem State.setChkLrc_sum (l : Byte) : (s.setChkLrc l).sum = s.sum := rfl
@[simp] theorem State.setChkLrc_digest (l : Byte) : (s.setChkLrc l).digest = s.digest := rfl
@[simp] theorem State.setChkLrc_ref (l : Byte) : (s.setChkLrc l).ref = s.ref := rfl
@[simp] theorem State.setChkLrc_uuid (l : Byte) : (s.setChkLrc l).uuid = s.uuid := rfl
@[simp] theorem State.setChkLrc_sumb (l : Byte) : (s.setChkLrc l).sumb = s.sumb := rfl
@[simp] theorem State.setChkLrc_buf (l : Byte) : (s.setChkLrc l).buf = s.buf := rfl
@[simp] theorem State.setChkLrc_md5 (l : Byte) : (s.setChkLrc l).md5 = s.md5 := rfl
@[simp] theorem State.setChkLrc_pend (l : Byte) : (s.setChkLrc l).pend = s.pend := rfl
@[simp] theorem State.setChkLrc_presetn (l : Byte) : (s.setChkLrc l).presetn = s.presetn := rfl
@[simp] theorem State.setChkLrc_schedule (l : Byte) : (s.setChkLrc l).schedule = s.schedule := rfl
@[simp] theorem State.setChkLrc_resp (l : Byte) : (s.setChkLrc l).resp = s.resp := rfl
@[simp] theorem State.setChkLrc_draws (l : Byte) : (s.setChkLrc l).draws = s.draws := rfl

/-! ### setChkG -/

@[simp] theorem State.setChkG_ctrl (g1 l g2 : Byte) : (s.setChkG g1 l g2).ctrl = s.ctrl := rfl
@[simp] theorem State.setChkG_done (g1 l g2 : Byte) : (s.setChkG g1 l g2).done = s.done := rfl
@[simp] theorem State.setChkG_err (g1 l g2 : Byte) : (s.setChkG g1 l g2).err = s.err := rfl
@[simp] theorem State.setChkG_wbusy (g1 l g2 : Byte) : (s.setChkG g1 l g2).wbusy = s.wbusy := rfl
@[simp] theorem State.setChkG_cmd (g1 l g2 : Byte) : (s.setChkG g1 l g2).cmd = s.cmd := rfl
@[simp] theorem State.setChkG_src (g1 l g2 : Byte) : (s.setChkG g1 l g2).src = s.src := rfl
@[simp] theorem State.setChkG_dst (g1 l g2 : Byte) : (s.setChkG g1 l g2).dst = s.dst := rfl
@[simp] theorem State.setChkG_len (g1 l g2 : Byte) : (s.setChkG g1 l g2).len = s.len := rfl
@[simp] theorem State.setChkG_outlen (g1 l g2 : Byte) : (s.setChkG g1 l g2).outlen = s.outlen := rfl
@[simp] theorem State.setChkG_chk (g1 l g2 : Byte) : (s.setChkG g1 l g2).chk = { s.chk with g1 := g1, lrc := l, g2 := g2 } := rfl
@[simp] theorem State.setChkG_chkref (g1 l g2 : Byte) : (s.setChkG g1 l g2).chkref = s.chkref := rfl
@[simp] theorem State.setChkG_crccfg (g1 l g2 : Byte) : (s.setChkG g1 l g2).crccfg = s.crccfg := rfl
@[simp] theorem State.setChkG_g1cfg (g1 l g2 : Byte) : (s.setChkG g1 l g2).g1cfg = s.g1cfg := rfl
@[simp] theorem State.setChkG_xlatX (g1 l g2 : Byte) : (s.setChkG g1 l g2).xlatX = s.xlatX := rfl
@[simp] theorem State.setChkG_key (g1 l g2 : Byte) : (s.setChkG g1 l g2).key = s.key := rfl
@[simp] theorem State.setChkG_rkey (g1 l g2 : Byte) : (s.setChkG g1 l g2).rkey = s.rkey := rfl
@[simp] theorem State.setChkG_iv (g1 l g2 : Byte) : (s.setChkG g1 l g2).iv = s.iv := rfl
@[simp] theorem State.setChkG_ivenc (g1 l g2 : Byte) : (s.setChkG g1 l g2).ivenc = s.ivenc := rfl
@[simp] theorem State.setChkG_sum (g1 l g2 : Byte) : (s.setChkG g1 l g2).sum = s.sum := rfl
@[simp] theorem State.setChkG_digest (g1 l g2 : Byte) : (s.setChkG g1 l g2).digest = s.digest := rfl
@[simp] theorem State.setChkG_ref (g1 l g2 : Byte) : (s.setChkG g1 l g2).ref = s.ref := rfl
@[simp] theorem State.setChkG_uuid (g1 l g2 : Byte) : (s.setChkG g1 l g2).uuid = s.uuid := rfl
@[simp] theorem State.setChkG_sumb (g1 l g2 : Byte) : (s.setChkG g1 l g2).sumb = s.sumb := rfl
@[simp] theorem State.setChkG_buf (g1 l g2 : Byte) : (s.setChkG g1 l g2).buf = s.buf := rfl
@[simp] theorem State.setChkG_md5 (g1 l g2 : Byte) : (s.setChkG g1 l g2).md5 = s.md5 := rfl
@[simp] theorem State.setChkG_pend (g1 l g2 : Byte) : (s.setChkG g1 l g2).pend = s.pend := rfl
@[simp] theorem State.setChkG_presetn (g1 l g2 : Byte) : (s.setChkG g1 l g2).presetn = s.presetn := rfl
@[simp] theorem State.setChkG_schedule (g1 l g2 : Byte) : (s.setChkG g1 l g2).schedule = s.schedule := rfl
@[simp] theorem State.setChkG_resp (g1 l g2 : Byte) : (s.setChkG g1 l g2).resp = s.resp := rfl
@[simp] theorem State.setChkG_draws (g1 l g2 : Byte) : (s.setChkG g1 l g2).draws = s.draws := rfl

/-! ### setRkey -/

@[simp] theorem State.setRkey_ctrl (v : Vector Byte 32) : (s.setRkey v).ctrl = s.ctrl := rfl
@[simp] theorem State.setRkey_done (v : Vector Byte 32) : (s.setRkey v).done = s.done := rfl
@[simp] theorem State.setRkey_err (v : Vector Byte 32) : (s.setRkey v).err = s.err := rfl
@[simp] theorem State.setRkey_wbusy (v : Vector Byte 32) : (s.setRkey v).wbusy = s.wbusy := rfl
@[simp] theorem State.setRkey_cmd (v : Vector Byte 32) : (s.setRkey v).cmd = s.cmd := rfl
@[simp] theorem State.setRkey_src (v : Vector Byte 32) : (s.setRkey v).src = s.src := rfl
@[simp] theorem State.setRkey_dst (v : Vector Byte 32) : (s.setRkey v).dst = s.dst := rfl
@[simp] theorem State.setRkey_len (v : Vector Byte 32) : (s.setRkey v).len = s.len := rfl
@[simp] theorem State.setRkey_outlen (v : Vector Byte 32) : (s.setRkey v).outlen = s.outlen := rfl
@[simp] theorem State.setRkey_chk (v : Vector Byte 32) : (s.setRkey v).chk = s.chk := rfl
@[simp] theorem State.setRkey_chkref (v : Vector Byte 32) : (s.setRkey v).chkref = s.chkref := rfl
@[simp] theorem State.setRkey_crccfg (v : Vector Byte 32) : (s.setRkey v).crccfg = s.crccfg := rfl
@[simp] theorem State.setRkey_g1cfg (v : Vector Byte 32) : (s.setRkey v).g1cfg = s.g1cfg := rfl
@[simp] theorem State.setRkey_xlatX (v : Vector Byte 32) : (s.setRkey v).xlatX = s.xlatX := rfl
@[simp] theorem State.setRkey_key (v : Vector Byte 32) : (s.setRkey v).key = s.key := rfl
@[simp] theorem State.setRkey_rkey (v : Vector Byte 32) : (s.setRkey v).rkey = v := rfl
@[simp] theorem State.setRkey_iv (v : Vector Byte 32) : (s.setRkey v).iv = s.iv := rfl
@[simp] theorem State.setRkey_ivenc (v : Vector Byte 32) : (s.setRkey v).ivenc = s.ivenc := rfl
@[simp] theorem State.setRkey_sum (v : Vector Byte 32) : (s.setRkey v).sum = s.sum := rfl
@[simp] theorem State.setRkey_digest (v : Vector Byte 32) : (s.setRkey v).digest = s.digest := rfl
@[simp] theorem State.setRkey_ref (v : Vector Byte 32) : (s.setRkey v).ref = s.ref := rfl
@[simp] theorem State.setRkey_uuid (v : Vector Byte 32) : (s.setRkey v).uuid = s.uuid := rfl
@[simp] theorem State.setRkey_sumb (v : Vector Byte 32) : (s.setRkey v).sumb = s.sumb := rfl
@[simp] theorem State.setRkey_buf (v : Vector Byte 32) : (s.setRkey v).buf = s.buf := rfl
@[simp] theorem State.setRkey_md5 (v : Vector Byte 32) : (s.setRkey v).md5 = s.md5 := rfl
@[simp] theorem State.setRkey_pend (v : Vector Byte 32) : (s.setRkey v).pend = s.pend := rfl
@[simp] theorem State.setRkey_presetn (v : Vector Byte 32) : (s.setRkey v).presetn = s.presetn := rfl
@[simp] theorem State.setRkey_schedule (v : Vector Byte 32) : (s.setRkey v).schedule = s.schedule := rfl
@[simp] theorem State.setRkey_resp (v : Vector Byte 32) : (s.setRkey v).resp = s.resp := rfl
@[simp] theorem State.setRkey_draws (v : Vector Byte 32) : (s.setRkey v).draws = s.draws := rfl

/-! ### setIv -/

@[simp] theorem State.setIv_ctrl (v : Vector Byte 16) : (s.setIv v).ctrl = s.ctrl := rfl
@[simp] theorem State.setIv_done (v : Vector Byte 16) : (s.setIv v).done = s.done := rfl
@[simp] theorem State.setIv_err (v : Vector Byte 16) : (s.setIv v).err = s.err := rfl
@[simp] theorem State.setIv_wbusy (v : Vector Byte 16) : (s.setIv v).wbusy = s.wbusy := rfl
@[simp] theorem State.setIv_cmd (v : Vector Byte 16) : (s.setIv v).cmd = s.cmd := rfl
@[simp] theorem State.setIv_src (v : Vector Byte 16) : (s.setIv v).src = s.src := rfl
@[simp] theorem State.setIv_dst (v : Vector Byte 16) : (s.setIv v).dst = s.dst := rfl
@[simp] theorem State.setIv_len (v : Vector Byte 16) : (s.setIv v).len = s.len := rfl
@[simp] theorem State.setIv_outlen (v : Vector Byte 16) : (s.setIv v).outlen = s.outlen := rfl
@[simp] theorem State.setIv_chk (v : Vector Byte 16) : (s.setIv v).chk = s.chk := rfl
@[simp] theorem State.setIv_chkref (v : Vector Byte 16) : (s.setIv v).chkref = s.chkref := rfl
@[simp] theorem State.setIv_crccfg (v : Vector Byte 16) : (s.setIv v).crccfg = s.crccfg := rfl
@[simp] theorem State.setIv_g1cfg (v : Vector Byte 16) : (s.setIv v).g1cfg = s.g1cfg := rfl
@[simp] theorem State.setIv_xlatX (v : Vector Byte 16) : (s.setIv v).xlatX = s.xlatX := rfl
@[simp] theorem State.setIv_key (v : Vector Byte 16) : (s.setIv v).key = s.key := rfl
@[simp] theorem State.setIv_rkey (v : Vector Byte 16) : (s.setIv v).rkey = s.rkey := rfl
@[simp] theorem State.setIv_iv (v : Vector Byte 16) : (s.setIv v).iv = v := rfl
@[simp] theorem State.setIv_ivenc (v : Vector Byte 16) : (s.setIv v).ivenc = s.ivenc := rfl
@[simp] theorem State.setIv_sum (v : Vector Byte 16) : (s.setIv v).sum = s.sum := rfl
@[simp] theorem State.setIv_digest (v : Vector Byte 16) : (s.setIv v).digest = s.digest := rfl
@[simp] theorem State.setIv_ref (v : Vector Byte 16) : (s.setIv v).ref = s.ref := rfl
@[simp] theorem State.setIv_uuid (v : Vector Byte 16) : (s.setIv v).uuid = s.uuid := rfl
@[simp] theorem State.setIv_sumb (v : Vector Byte 16) : (s.setIv v).sumb = s.sumb := rfl
@[simp] theorem State.setIv_buf (v : Vector Byte 16) : (s.setIv v).buf = s.buf := rfl
@[simp] theorem State.setIv_md5 (v : Vector Byte 16) : (s.setIv v).md5 = s.md5 := rfl
@[simp] theorem State.setIv_pend (v : Vector Byte 16) : (s.setIv v).pend = s.pend := rfl
@[simp] theorem State.setIv_presetn (v : Vector Byte 16) : (s.setIv v).presetn = s.presetn := rfl
@[simp] theorem State.setIv_schedule (v : Vector Byte 16) : (s.setIv v).schedule = s.schedule := rfl
@[simp] theorem State.setIv_resp (v : Vector Byte 16) : (s.setIv v).resp = s.resp := rfl
@[simp] theorem State.setIv_draws (v : Vector Byte 16) : (s.setIv v).draws = s.draws := rfl

/-! ### setIvenc -/

@[simp] theorem State.setIvenc_ctrl (v : Vector Byte 16) : (s.setIvenc v).ctrl = s.ctrl := rfl
@[simp] theorem State.setIvenc_done (v : Vector Byte 16) : (s.setIvenc v).done = s.done := rfl
@[simp] theorem State.setIvenc_err (v : Vector Byte 16) : (s.setIvenc v).err = s.err := rfl
@[simp] theorem State.setIvenc_wbusy (v : Vector Byte 16) : (s.setIvenc v).wbusy = s.wbusy := rfl
@[simp] theorem State.setIvenc_cmd (v : Vector Byte 16) : (s.setIvenc v).cmd = s.cmd := rfl
@[simp] theorem State.setIvenc_src (v : Vector Byte 16) : (s.setIvenc v).src = s.src := rfl
@[simp] theorem State.setIvenc_dst (v : Vector Byte 16) : (s.setIvenc v).dst = s.dst := rfl
@[simp] theorem State.setIvenc_len (v : Vector Byte 16) : (s.setIvenc v).len = s.len := rfl
@[simp] theorem State.setIvenc_outlen (v : Vector Byte 16) : (s.setIvenc v).outlen = s.outlen := rfl
@[simp] theorem State.setIvenc_chk (v : Vector Byte 16) : (s.setIvenc v).chk = s.chk := rfl
@[simp] theorem State.setIvenc_chkref (v : Vector Byte 16) : (s.setIvenc v).chkref = s.chkref := rfl
@[simp] theorem State.setIvenc_crccfg (v : Vector Byte 16) : (s.setIvenc v).crccfg = s.crccfg := rfl
@[simp] theorem State.setIvenc_g1cfg (v : Vector Byte 16) : (s.setIvenc v).g1cfg = s.g1cfg := rfl
@[simp] theorem State.setIvenc_xlatX (v : Vector Byte 16) : (s.setIvenc v).xlatX = s.xlatX := rfl
@[simp] theorem State.setIvenc_key (v : Vector Byte 16) : (s.setIvenc v).key = s.key := rfl
@[simp] theorem State.setIvenc_rkey (v : Vector Byte 16) : (s.setIvenc v).rkey = s.rkey := rfl
@[simp] theorem State.setIvenc_iv (v : Vector Byte 16) : (s.setIvenc v).iv = s.iv := rfl
@[simp] theorem State.setIvenc_ivenc (v : Vector Byte 16) : (s.setIvenc v).ivenc = v := rfl
@[simp] theorem State.setIvenc_sum (v : Vector Byte 16) : (s.setIvenc v).sum = s.sum := rfl
@[simp] theorem State.setIvenc_digest (v : Vector Byte 16) : (s.setIvenc v).digest = s.digest := rfl
@[simp] theorem State.setIvenc_ref (v : Vector Byte 16) : (s.setIvenc v).ref = s.ref := rfl
@[simp] theorem State.setIvenc_uuid (v : Vector Byte 16) : (s.setIvenc v).uuid = s.uuid := rfl
@[simp] theorem State.setIvenc_sumb (v : Vector Byte 16) : (s.setIvenc v).sumb = s.sumb := rfl
@[simp] theorem State.setIvenc_buf (v : Vector Byte 16) : (s.setIvenc v).buf = s.buf := rfl
@[simp] theorem State.setIvenc_md5 (v : Vector Byte 16) : (s.setIvenc v).md5 = s.md5 := rfl
@[simp] theorem State.setIvenc_pend (v : Vector Byte 16) : (s.setIvenc v).pend = s.pend := rfl
@[simp] theorem State.setIvenc_presetn (v : Vector Byte 16) : (s.setIvenc v).presetn = s.presetn := rfl
@[simp] theorem State.setIvenc_schedule (v : Vector Byte 16) : (s.setIvenc v).schedule = s.schedule := rfl
@[simp] theorem State.setIvenc_resp (v : Vector Byte 16) : (s.setIvenc v).resp = s.resp := rfl
@[simp] theorem State.setIvenc_draws (v : Vector Byte 16) : (s.setIvenc v).draws = s.draws := rfl

/-! ### setSum -/

@[simp] theorem State.setSum_ctrl (v : Vector Byte 16) : (s.setSum v).ctrl = s.ctrl := rfl
@[simp] theorem State.setSum_done (v : Vector Byte 16) : (s.setSum v).done = s.done := rfl
@[simp] theorem State.setSum_err (v : Vector Byte 16) : (s.setSum v).err = s.err := rfl
@[simp] theorem State.setSum_wbusy (v : Vector Byte 16) : (s.setSum v).wbusy = s.wbusy := rfl
@[simp] theorem State.setSum_cmd (v : Vector Byte 16) : (s.setSum v).cmd = s.cmd := rfl
@[simp] theorem State.setSum_src (v : Vector Byte 16) : (s.setSum v).src = s.src := rfl
@[simp] theorem State.setSum_dst (v : Vector Byte 16) : (s.setSum v).dst = s.dst := rfl
@[simp] theorem State.setSum_len (v : Vector Byte 16) : (s.setSum v).len = s.len := rfl
@[simp] theorem State.setSum_outlen (v : Vector Byte 16) : (s.setSum v).outlen = s.outlen := rfl
@[simp] theorem State.setSum_chk (v : Vector Byte 16) : (s.setSum v).chk = s.chk := rfl
@[simp] theorem State.setSum_chkref (v : Vector Byte 16) : (s.setSum v).chkref = s.chkref := rfl
@[simp] theorem State.setSum_crccfg (v : Vector Byte 16) : (s.setSum v).crccfg = s.crccfg := rfl
@[simp] theorem State.setSum_g1cfg (v : Vector Byte 16) : (s.setSum v).g1cfg = s.g1cfg := rfl
@[simp] theorem State.setSum_xlatX (v : Vector Byte 16) : (s.setSum v).xlatX = s.xlatX := rfl
@[simp] theorem State.setSum_key (v : Vector Byte 16) : (s.setSum v).key = s.key := rfl
@[simp] theorem State.setSum_rkey (v : Vector Byte 16) : (s.setSum v).rkey = s.rkey := rfl
@[simp] theorem State.setSum_iv (v : Vector Byte 16) : (s.setSum v).iv = s.iv := rfl
@[simp] theorem State.setSum_ivenc (v : Vector Byte 16) : (s.setSum v).ivenc = s.ivenc := rfl
@[simp] theorem State.setSum_sum (v : Vector Byte 16) : (s.setSum v).sum = v := rfl
@[simp] theorem State.setSum_digest (v : Vector Byte 16) : (s.setSum v).digest = s.digest := rfl
@[simp] theorem State.setSum_ref (v : Vector Byte 16) : (s.setSum v).ref = s.ref := rfl
@[simp] theorem State.setSum_uuid (v : Vector Byte 16) : (s.setSum v).uuid = s.uuid := rfl
@[simp] theorem State.setSum_sumb (v : Vector Byte 16) : (s.setSum v).sumb = s.sumb := rfl
@[simp] theorem State.setSum_buf (v : Vector Byte 16) : (s.setSum v).buf = s.buf := rfl
@[simp] theorem State.setSum_md5 (v : Vector Byte 16) : (s.setSum v).md5 = s.md5 := rfl
@[simp] theorem State.setSum_pend (v : Vector Byte 16) : (s.setSum v).pend = s.pend := rfl
@[simp] theorem State.setSum_presetn (v : Vector Byte 16) : (s.setSum v).presetn = s.presetn := rfl
@[simp] theorem State.setSum_schedule (v : Vector Byte 16) : (s.setSum v).schedule = s.schedule := rfl
@[simp] theorem State.setSum_resp (v : Vector Byte 16) : (s.setSum v).resp = s.resp := rfl
@[simp] theorem State.setSum_draws (v : Vector Byte 16) : (s.setSum v).draws = s.draws := rfl

/-! ### setDigest -/

@[simp] theorem State.setDigest_ctrl (v : Vector Byte 16) : (s.setDigest v).ctrl = s.ctrl := rfl
@[simp] theorem State.setDigest_done (v : Vector Byte 16) : (s.setDigest v).done = s.done := rfl
@[simp] theorem State.setDigest_err (v : Vector Byte 16) : (s.setDigest v).err = s.err := rfl
@[simp] theorem State.setDigest_wbusy (v : Vector Byte 16) : (s.setDigest v).wbusy = s.wbusy := rfl
@[simp] theorem State.setDigest_cmd (v : Vector Byte 16) : (s.setDigest v).cmd = s.cmd := rfl
@[simp] theorem State.setDigest_src (v : Vector Byte 16) : (s.setDigest v).src = s.src := rfl
@[simp] theorem State.setDigest_dst (v : Vector Byte 16) : (s.setDigest v).dst = s.dst := rfl
@[simp] theorem State.setDigest_len (v : Vector Byte 16) : (s.setDigest v).len = s.len := rfl
@[simp] theorem State.setDigest_outlen (v : Vector Byte 16) : (s.setDigest v).outlen = s.outlen := rfl
@[simp] theorem State.setDigest_chk (v : Vector Byte 16) : (s.setDigest v).chk = s.chk := rfl
@[simp] theorem State.setDigest_chkref (v : Vector Byte 16) : (s.setDigest v).chkref = s.chkref := rfl
@[simp] theorem State.setDigest_crccfg (v : Vector Byte 16) : (s.setDigest v).crccfg = s.crccfg := rfl
@[simp] theorem State.setDigest_g1cfg (v : Vector Byte 16) : (s.setDigest v).g1cfg = s.g1cfg := rfl
@[simp] theorem State.setDigest_xlatX (v : Vector Byte 16) : (s.setDigest v).xlatX = s.xlatX := rfl
@[simp] theorem State.setDigest_key (v : Vector Byte 16) : (s.setDigest v).key = s.key := rfl
@[simp] theorem State.setDigest_rkey (v : Vector Byte 16) : (s.setDigest v).rkey = s.rkey := rfl
@[simp] theorem State.setDigest_iv (v : Vector Byte 16) : (s.setDigest v).iv = s.iv := rfl
@[simp] theorem State.setDigest_ivenc (v : Vector Byte 16) : (s.setDigest v).ivenc = s.ivenc := rfl
@[simp] theorem State.setDigest_sum (v : Vector Byte 16) : (s.setDigest v).sum = s.sum := rfl
@[simp] theorem State.setDigest_digest (v : Vector Byte 16) : (s.setDigest v).digest = v := rfl
@[simp] theorem State.setDigest_ref (v : Vector Byte 16) : (s.setDigest v).ref = s.ref := rfl
@[simp] theorem State.setDigest_uuid (v : Vector Byte 16) : (s.setDigest v).uuid = s.uuid := rfl
@[simp] theorem State.setDigest_sumb (v : Vector Byte 16) : (s.setDigest v).sumb = s.sumb := rfl
@[simp] theorem State.setDigest_buf (v : Vector Byte 16) : (s.setDigest v).buf = s.buf := rfl
@[simp] theorem State.setDigest_md5 (v : Vector Byte 16) : (s.setDigest v).md5 = s.md5 := rfl
@[simp] theorem State.setDigest_pend (v : Vector Byte 16) : (s.setDigest v).pend = s.pend := rfl
@[simp] theorem State.setDigest_presetn (v : Vector Byte 16) : (s.setDigest v).presetn = s.presetn := rfl
@[simp] theorem State.setDigest_schedule (v : Vector Byte 16) : (s.setDigest v).schedule = s.schedule := rfl
@[simp] theorem State.setDigest_resp (v : Vector Byte 16) : (s.setDigest v).resp = s.resp := rfl
@[simp] theorem State.setDigest_draws (v : Vector Byte 16) : (s.setDigest v).draws = s.draws := rfl

/-! ### setSumb -/

@[simp] theorem State.setSumb_ctrl (v : Vector Byte 32) : (s.setSumb v).ctrl = s.ctrl := rfl
@[simp] theorem State.setSumb_done (v : Vector Byte 32) : (s.setSumb v).done = s.done := rfl
@[simp] theorem State.setSumb_err (v : Vector Byte 32) : (s.setSumb v).err = s.err := rfl
@[simp] theorem State.setSumb_wbusy (v : Vector Byte 32) : (s.setSumb v).wbusy = s.wbusy := rfl
@[simp] theorem State.setSumb_cmd (v : Vector Byte 32) : (s.setSumb v).cmd = s.cmd := rfl
@[simp] theorem State.setSumb_src (v : Vector Byte 32) : (s.setSumb v).src = s.src := rfl
@[simp] theorem State.setSumb_dst (v : Vector Byte 32) : (s.setSumb v).dst = s.dst := rfl
@[simp] theorem State.setSumb_len (v : Vector Byte 32) : (s.setSumb v).len = s.len := rfl
@[simp] theorem State.setSumb_outlen (v : Vector Byte 32) : (s.setSumb v).outlen = s.outlen := rfl
@[simp] theorem State.setSumb_chk (v : Vector Byte 32) : (s.setSumb v).chk = s.chk := rfl
@[simp] theorem State.setSumb_chkref (v : Vector Byte 32) : (s.setSumb v).chkref = s.chkref := rfl
@[simp] theorem State.setSumb_crccfg (v : Vector Byte 32) : (s.setSumb v).crccfg = s.crccfg := rfl
@[simp] theorem State.setSumb_g1cfg (v : Vector Byte 32) : (s.setSumb v).g1cfg = s.g1cfg := rfl
@[simp] theorem State.setSumb_xlatX (v : Vector Byte 32) : (s.setSumb v).xlatX = s.xlatX := rfl
@[simp] theorem State.setSumb_key (v : Vector Byte 32) : (s.setSumb v).key = s.key := rfl
@[simp] theorem State.setSumb_rkey (v : Vector Byte 32) : (s.setSumb v).rkey = s.rkey := rfl
@[simp] theorem State.setSumb_iv (v : Vector Byte 32) : (s.setSumb v).iv = s.iv := rfl
@[simp] theorem State.setSumb_ivenc (v : Vector Byte 32) : (s.setSumb v).ivenc = s.ivenc := rfl
@[simp] theorem State.setSumb_sum (v : Vector Byte 32) : (s.setSumb v).sum = s.sum := rfl
@[simp] theorem State.setSumb_digest (v : Vector Byte 32) : (s.setSumb v).digest = s.digest := rfl
@[simp] theorem State.setSumb_ref (v : Vector Byte 32) : (s.setSumb v).ref = s.ref := rfl
@[simp] theorem State.setSumb_uuid (v : Vector Byte 32) : (s.setSumb v).uuid = s.uuid := rfl
@[simp] theorem State.setSumb_sumb (v : Vector Byte 32) : (s.setSumb v).sumb = v := rfl
@[simp] theorem State.setSumb_buf (v : Vector Byte 32) : (s.setSumb v).buf = s.buf := rfl
@[simp] theorem State.setSumb_md5 (v : Vector Byte 32) : (s.setSumb v).md5 = s.md5 := rfl
@[simp] theorem State.setSumb_pend (v : Vector Byte 32) : (s.setSumb v).pend = s.pend := rfl
@[simp] theorem State.setSumb_presetn (v : Vector Byte 32) : (s.setSumb v).presetn = s.presetn := rfl
@[simp] theorem State.setSumb_schedule (v : Vector Byte 32) : (s.setSumb v).schedule = s.schedule := rfl
@[simp] theorem State.setSumb_resp (v : Vector Byte 32) : (s.setSumb v).resp = s.resp := rfl
@[simp] theorem State.setSumb_draws (v : Vector Byte 32) : (s.setSumb v).draws = s.draws := rfl

/-! ### setMd5 -/

@[simp] theorem State.setMd5_ctrl (m : Md5Context) : (s.setMd5 m).ctrl = s.ctrl := rfl
@[simp] theorem State.setMd5_done (m : Md5Context) : (s.setMd5 m).done = s.done := rfl
@[simp] theorem State.setMd5_err (m : Md5Context) : (s.setMd5 m).err = s.err := rfl
@[simp] theorem State.setMd5_wbusy (m : Md5Context) : (s.setMd5 m).wbusy = s.wbusy := rfl
@[simp] theorem State.setMd5_cmd (m : Md5Context) : (s.setMd5 m).cmd = s.cmd := rfl
@[simp] theorem State.setMd5_src (m : Md5Context) : (s.setMd5 m).src = s.src := rfl
@[simp] theorem State.setMd5_dst (m : Md5Context) : (s.setMd5 m).dst = s.dst := rfl
@[simp] theorem State.setMd5_len (m : Md5Context) : (s.setMd5 m).len = s.len := rfl
@[simp] theorem State.setMd5_outlen (m : Md5Context) : (s.setMd5 m).outlen = s.outlen := rfl
@[simp] theorem State.setMd5_chk (m : Md5Context) : (s.setMd5 m).chk = s.chk := rfl
@[simp] theorem State.setMd5_chkref (m : Md5Context) : (s.setMd5 m).chkref = s.chkref := rfl
@[simp] theorem State.setMd5_crccfg (m : Md5Context) : (s.setMd5 m).crccfg = s.crccfg := rfl
@[simp] theorem State.setMd5_g1cfg (m : Md5Context) : (s.setMd5 m).g1cfg = s.g1cfg := rfl
@[simp] theorem State.setMd5_xlatX (m : Md5Context) : (s.setMd5 m).xlatX = s.xlatX := rfl
@[simp] theorem State.setMd5_key (m : Md5Context) : (s.setMd5 m).key = s.key := rfl
@[simp] theorem State.setMd5_rkey (m : Md5Context) : (s.setMd5 m).rkey = s.rkey := rfl
@[simp] theorem State.setMd5_iv (m : Md5Context) : (s.setMd5 m).iv = s.iv := rfl
@[simp] theorem State.setMd5_ivenc (m : Md5Context) : (s.setMd5 m).ivenc = s.ivenc := rfl
@[simp] theorem State.setMd5_sum (m : Md5Context) : (s.setMd5 m).sum = s.sum := rfl
@[simp] theorem State.setMd5_digest (m : Md5Context) : (s.setMd5 m).digest = s.digest := rfl
@[simp] theorem State.setMd5_ref (m : Md5Context) : (s.setMd5 m).ref = s.ref := rfl
@[simp] theorem State.setMd5_uuid (m : Md5Context) : (s.setMd5 m).uuid = s.uuid := rfl
@[simp] theorem State.setMd5_sumb (m : Md5Context) : (s.setMd5 m).sumb = s.sumb := rfl
@[simp] theorem State.setMd5_buf (m : Md5Context) : (s.setMd5 m).buf = s.buf := rfl
@[simp] theorem State.setMd5_md5 (m : Md5Context) : (s.setMd5 m).md5 = m := rfl
@[simp] theorem State.setMd5_pend (m : Md5Context) : (s.setMd5 m).pend = s.pend := rfl
@[simp] theorem State.setMd5_presetn (m : Md5Context) : (s.setMd5 m).presetn = s.presetn := rfl
@[simp] theorem State.setMd5_schedule (m : Md5Context) : (s.setMd5 m).schedule = s.schedule := rfl
@[simp] theorem State.setMd5_resp (m : Md5Context) : (s.setMd5 m).resp = s.resp := rfl
@[simp] theorem State.setMd5_draws (m : Md5Context) : (s.setMd5 m).draws = s.draws := rfl

/-! ### setBuf -/

@[simp] theorem State.setBuf_ctrl (m : Memory) : (s.setBuf m).ctrl = s.ctrl := rfl
@[simp] theorem State.setBuf_done (m : Memory) : (s.setBuf m).done = s.done := rfl
@[simp] theorem State.setBuf_err (m : Memory) : (s.setBuf m).err = s.err := rfl
@[simp] theorem State.setBuf_wbusy (m : Memory) : (s.setBuf m).wbusy = s.wbusy := rfl
@[simp] theorem State.setBuf_cmd (m : Memory) : (s.setBuf m).cmd = s.cmd := rfl
@[simp] theorem State.setBuf_src (m : Memory) : (s.setBuf m).src = s.src := rfl
@[simp] theorem State.setBuf_dst (m : Memory) : (s.setBuf m).dst = s.dst := rfl
@[simp] theorem State.setBuf_len (m : Memory) : (s.setBuf m).len = s.len := rfl
@[simp] theorem State.setBuf_outlen (m : Memory) : (s.setBuf m).outlen = s.outlen := rfl
@[simp] theorem State.setBuf_chk (m : Memory) : (s.setBuf m).chk = s.chk := rfl
@[simp] theorem State.setBuf_chkref (m : Memory) : (s.setBuf m).chkref = s.chkref := rfl
@[simp] theorem State.setBuf_crccfg (m : Memory) : (s.setBuf m).crccfg = s.crccfg := rfl
@[simp] theorem State.setBuf_g1cfg (m : Memory) : (s.setBuf m).g1cfg = s.g1cfg := rfl
@[simp] theorem State.setBuf_xlatX (m : Memory) : (s.setBuf m).xlatX = s.xlatX := rfl
@[simp] theorem State.setBuf_key (m : Memory) : (s.setBuf m).key = s.key := rfl
@[simp] theorem State.setBuf_rkey (m : Memory) : (s.setBuf m).rkey = s.rkey := rfl
@[simp] theorem State.setBuf_iv (m : Memory) : (s.setBuf m).iv = s.iv := rfl
@[simp] theorem State.setBuf_ivenc (m : Memory) : (s.setBuf m).ivenc = s.ivenc := rfl
@[simp] theorem State.setBuf_sum (m : Memory) : (s.setBuf m).sum = s.sum := rfl
@[simp] theorem State.setBuf_digest (m : Memory) : (s.setBuf m).digest = s.digest := rfl
@[simp] theorem State.setBuf_ref (m : Memory) : (s.setBuf m).ref = s.ref := rfl
@[simp] theorem State.setBuf_uuid (m : Memory) : (s.setBuf m).uuid = s.uuid := rfl
@[simp] theorem State.setBuf_sumb (m : Memory) : (s.setBuf m).sumb = s.sumb := rfl
@[simp] theorem State.setBuf_buf (m : Memory) : (s.setBuf m).buf = m := rfl
@[simp] theorem State.setBuf_md5 (m : Memory) : (s.setBuf m).md5 = s.md5 := rfl
@[simp] theorem State.setBuf_pend (m : Memory) : (s.setBuf m).pend = s.pend := rfl
@[simp] theorem State.setBuf_presetn (m : Memory) : (s.setBuf m).presetn = s.presetn := rfl
@[simp] theorem State.setBuf_schedule (m : Memory) : (s.setBuf m).schedule = s.schedule := rfl
@[simp] theorem State.setBuf_resp (m : Memory) : (s.setBuf m).resp = s.resp := rfl
@[simp] theorem State.setBuf_draws (m : Memory) : (s.setBuf m).draws = s.draws := rfl

/-! ### complete -/

@[simp] theorem State.complete_ctrl (code : Option ErrCode) : (s.complete code).ctrl = s.ctrl := rfl
@[simp] theorem State.complete_done (code : Option ErrCode) : (s.complete code).done = true := rfl
@[simp] theorem State.complete_err (code : Option ErrCode) : (s.complete code).err = code := rfl
@[simp] theorem State.complete_wbusy (code : Option ErrCode) : (s.complete code).wbusy = s.wbusy := rfl
@[simp] theorem State.complete_cmd (code : Option ErrCode) : (s.complete code).cmd = s.cmd := rfl
@[simp] theorem State.complete_src (code : Option ErrCode) : (s.complete code).src = s.src := rfl
@[simp] theorem State.complete_dst (code : Option ErrCode) : (s.complete code).dst = s.dst := rfl
@[simp] theorem State.complete_len (code : Option ErrCode) : (s.complete code).len = s.len := rfl
@[simp] theorem State.complete_outlen (code : Option ErrCode) : (s.complete code).outlen = s.outlen := rfl
@[simp] theorem State.complete_chk (code : Option ErrCode) : (s.complete code).chk = s.chk := rfl
@[simp] theorem State.complete_chkref (code : Option ErrCode) : (s.complete code).chkref = s.chkref := rfl
@[simp] theorem State.complete_crccfg (code : Option ErrCode) : (s.complete code).crccfg = s.crccfg := rfl
@[simp] theorem State.complete_g1cfg (code : Option ErrCode) : (s.complete code).g1cfg = s.g1cfg := rfl
@[simp] theorem State.complete_xlatX (code : Option ErrCode) : (s.complete code).xlatX = s.xlatX := rfl
@[simp] theorem State.complete_key (code : Option ErrCode) : (s.complete code).key = s.key := rfl
@[simp] theorem State.complete_rkey (code : Option ErrCode) : (s.complete code).rkey = s.rkey := rfl
@[simp] theorem State.complete_iv (code : Option ErrCode) : (s.complete code).iv = s.iv := rfl
@[simp] theorem State.complete_ivenc (code : Option ErrCode) : (s.complete code).ivenc = s.ivenc := rfl
@[simp] theorem State.complete_sum (code : Option ErrCode) : (s.complete code).sum = s.sum := rfl
@[simp] theorem State.complete_digest (code : Option ErrCode) : (s.complete code).digest = s.digest := rfl
@[simp] theorem State.complete_ref (code : Option ErrCode) : (s.complete code).ref = s.ref := rfl
@[simp] theorem State.complete_uuid (code : Option ErrCode) : (s.complete code).uuid = s.uuid := rfl
@[simp] theorem State.complete_sumb (code : Option ErrCode) : (s.complete code).sumb = s.sumb := rfl
@[simp] theorem State.complete_buf (code : Option ErrCode) : (s.complete code).buf = s.buf := rfl
@[simp] theorem State.complete_md5 (code : Option ErrCode) : (s.complete code).md5 = s.md5 := rfl
@[simp] theorem State.complete_pend (code : Option ErrCode) : (s.complete code).pend = none := rfl
@[simp] theorem State.complete_presetn (code : Option ErrCode) : (s.complete code).presetn = s.presetn := rfl
@[simp] theorem State.complete_schedule (code : Option ErrCode) : (s.complete code).schedule = s.schedule := rfl
@[simp] theorem State.complete_resp (code : Option ErrCode) : (s.complete code).resp = s.resp := rfl
@[simp] theorem State.complete_draws (code : Option ErrCode) : (s.complete code).draws = s.draws := rfl

/-! ### issue -/

@[simp] theorem State.issue_ctrl (d : Word) : (s.issue d).ctrl = s.ctrl := rfl
@[simp] theorem State.issue_done (d : Word) : (s.issue d).done = false := rfl
@[simp] theorem State.issue_err (d : Word) : (s.issue d).err = none := rfl
@[simp] theorem State.issue_wbusy (d : Word) : (s.issue d).wbusy = s.wbusy := rfl
@[simp] theorem State.issue_cmd (d : Word) : (s.issue d).cmd = d := rfl
@[simp] theorem State.issue_src (d : Word) : (s.issue d).src = s.src := rfl
@[simp] theorem State.issue_dst (d : Word) : (s.issue d).dst = s.dst := rfl
@[simp] theorem State.issue_len (d : Word) : (s.issue d).len = s.len := rfl
@[simp] theorem State.issue_outlen (d : Word) : (s.issue d).outlen = s.outlen := rfl
@[simp] theorem State.issue_chk (d : Word) : (s.issue d).chk = s.chk := rfl
@[simp] theorem State.issue_chkref (d : Word) : (s.issue d).chkref = s.chkref := rfl
@[simp] theorem State.issue_crccfg (d : Word) : (s.issue d).crccfg = s.crccfg := rfl
@[simp] theorem State.issue_g1cfg (d : Word) : (s.issue d).g1cfg = s.g1cfg := rfl
@[simp] theorem State.issue_xlatX (d : Word) : (s.issue d).xlatX = s.xlatX := rfl
@[simp] theorem State.issue_key (d : Word) : (s.issue d).key = s.key := rfl
@[simp] theorem State.issue_rkey (d : Word) : (s.issue d).rkey = s.rkey := rfl
@[simp] theorem State.issue_iv (d : Word) : (s.issue d).iv = s.iv := rfl
@[simp] theorem State.issue_ivenc (d : Word) : (s.issue d).ivenc = s.ivenc := rfl
@[simp] theorem State.issue_sum (d : Word) : (s.issue d).sum = s.sum := rfl
@[simp] theorem State.issue_digest (d : Word) : (s.issue d).digest = s.digest := rfl
@[simp] theorem State.issue_ref (d : Word) : (s.issue d).ref = s.ref := rfl
@[simp] theorem State.issue_uuid (d : Word) : (s.issue d).uuid = s.uuid := rfl
@[simp] theorem State.issue_sumb (d : Word) : (s.issue d).sumb = s.sumb := rfl
@[simp] theorem State.issue_buf (d : Word) : (s.issue d).buf = s.buf := rfl
@[simp] theorem State.issue_md5 (d : Word) : (s.issue d).md5 = s.md5 := rfl
@[simp] theorem State.issue_pend (d : Word) : (s.issue d).pend = some ⟨d, s.src, s.dst, s.len⟩ := rfl
@[simp] theorem State.issue_presetn (d : Word) : (s.issue d).presetn = s.presetn := rfl
@[simp] theorem State.issue_schedule (d : Word) : (s.issue d).schedule = s.schedule := rfl
@[simp] theorem State.issue_resp (d : Word) : (s.issue d).resp = s.resp := rfl
@[simp] theorem State.issue_draws (d : Word) : (s.issue d).draws = s.draws := rfl

/-! ### acknowledge -/

@[simp] theorem State.acknowledge_ctrl (d : Word) : (s.acknowledge d).ctrl = s.ctrl := rfl
@[simp] theorem State.acknowledge_done (d : Word) : (s.acknowledge d).done = if d[1] then false else s.done := rfl
@[simp] theorem State.acknowledge_err (d : Word) : (s.acknowledge d).err = if d[2] then none else s.err := rfl
@[simp] theorem State.acknowledge_wbusy (d : Word) : (s.acknowledge d).wbusy = if d[3] then false else s.wbusy := rfl
@[simp] theorem State.acknowledge_cmd (d : Word) : (s.acknowledge d).cmd = s.cmd := rfl
@[simp] theorem State.acknowledge_src (d : Word) : (s.acknowledge d).src = s.src := rfl
@[simp] theorem State.acknowledge_dst (d : Word) : (s.acknowledge d).dst = s.dst := rfl
@[simp] theorem State.acknowledge_len (d : Word) : (s.acknowledge d).len = s.len := rfl
@[simp] theorem State.acknowledge_outlen (d : Word) : (s.acknowledge d).outlen = s.outlen := rfl
@[simp] theorem State.acknowledge_chk (d : Word) : (s.acknowledge d).chk = s.chk := rfl
@[simp] theorem State.acknowledge_chkref (d : Word) : (s.acknowledge d).chkref = s.chkref := rfl
@[simp] theorem State.acknowledge_crccfg (d : Word) : (s.acknowledge d).crccfg = s.crccfg := rfl
@[simp] theorem State.acknowledge_g1cfg (d : Word) : (s.acknowledge d).g1cfg = s.g1cfg := rfl
@[simp] theorem State.acknowledge_xlatX (d : Word) : (s.acknowledge d).xlatX = s.xlatX := rfl
@[simp] theorem State.acknowledge_key (d : Word) : (s.acknowledge d).key = s.key := rfl
@[simp] theorem State.acknowledge_rkey (d : Word) : (s.acknowledge d).rkey = s.rkey := rfl
@[simp] theorem State.acknowledge_iv (d : Word) : (s.acknowledge d).iv = s.iv := rfl
@[simp] theorem State.acknowledge_ivenc (d : Word) : (s.acknowledge d).ivenc = s.ivenc := rfl
@[simp] theorem State.acknowledge_sum (d : Word) : (s.acknowledge d).sum = s.sum := rfl
@[simp] theorem State.acknowledge_digest (d : Word) : (s.acknowledge d).digest = s.digest := rfl
@[simp] theorem State.acknowledge_ref (d : Word) : (s.acknowledge d).ref = s.ref := rfl
@[simp] theorem State.acknowledge_uuid (d : Word) : (s.acknowledge d).uuid = s.uuid := rfl
@[simp] theorem State.acknowledge_sumb (d : Word) : (s.acknowledge d).sumb = s.sumb := rfl
@[simp] theorem State.acknowledge_buf (d : Word) : (s.acknowledge d).buf = s.buf := rfl
@[simp] theorem State.acknowledge_md5 (d : Word) : (s.acknowledge d).md5 = s.md5 := rfl
@[simp] theorem State.acknowledge_pend (d : Word) : (s.acknowledge d).pend = s.pend := rfl
@[simp] theorem State.acknowledge_presetn (d : Word) : (s.acknowledge d).presetn = s.presetn := rfl
@[simp] theorem State.acknowledge_schedule (d : Word) : (s.acknowledge d).schedule = s.schedule := rfl
@[simp] theorem State.acknowledge_resp (d : Word) : (s.acknowledge d).resp = s.resp := rfl
@[simp] theorem State.acknowledge_draws (d : Word) : (s.acknowledge d).draws = s.draws := rfl

/-! ### resetRegisters -/

@[simp] theorem State.resetRegisters_ctrl : (s.resetRegisters).ctrl = State.reset.ctrl := rfl
@[simp] theorem State.resetRegisters_done : (s.resetRegisters).done = State.reset.done := rfl
@[simp] theorem State.resetRegisters_err : (s.resetRegisters).err = State.reset.err := rfl
@[simp] theorem State.resetRegisters_wbusy : (s.resetRegisters).wbusy = State.reset.wbusy := rfl
@[simp] theorem State.resetRegisters_cmd : (s.resetRegisters).cmd = State.reset.cmd := rfl
@[simp] theorem State.resetRegisters_src : (s.resetRegisters).src = State.reset.src := rfl
@[simp] theorem State.resetRegisters_dst : (s.resetRegisters).dst = State.reset.dst := rfl
@[simp] theorem State.resetRegisters_len : (s.resetRegisters).len = State.reset.len := rfl
@[simp] theorem State.resetRegisters_outlen : (s.resetRegisters).outlen = State.reset.outlen := rfl
@[simp] theorem State.resetRegisters_chk : (s.resetRegisters).chk = State.reset.chk := rfl
@[simp] theorem State.resetRegisters_chkref : (s.resetRegisters).chkref = State.reset.chkref := rfl
@[simp] theorem State.resetRegisters_crccfg : (s.resetRegisters).crccfg = State.reset.crccfg := rfl
@[simp] theorem State.resetRegisters_g1cfg : (s.resetRegisters).g1cfg = State.reset.g1cfg := rfl
@[simp] theorem State.resetRegisters_xlatX : (s.resetRegisters).xlatX = State.reset.xlatX := rfl
@[simp] theorem State.resetRegisters_key : (s.resetRegisters).key = State.reset.key := rfl
@[simp] theorem State.resetRegisters_rkey : (s.resetRegisters).rkey = State.reset.rkey := rfl
@[simp] theorem State.resetRegisters_iv : (s.resetRegisters).iv = State.reset.iv := rfl
@[simp] theorem State.resetRegisters_ivenc : (s.resetRegisters).ivenc = State.reset.ivenc := rfl
@[simp] theorem State.resetRegisters_sum : (s.resetRegisters).sum = State.reset.sum := rfl
@[simp] theorem State.resetRegisters_digest : (s.resetRegisters).digest = State.reset.digest := rfl
@[simp] theorem State.resetRegisters_ref : (s.resetRegisters).ref = State.reset.ref := rfl
@[simp] theorem State.resetRegisters_uuid : (s.resetRegisters).uuid = State.reset.uuid := rfl
@[simp] theorem State.resetRegisters_sumb : (s.resetRegisters).sumb = State.reset.sumb := rfl
@[simp] theorem State.resetRegisters_buf : (s.resetRegisters).buf = s.buf := rfl
@[simp] theorem State.resetRegisters_md5 : (s.resetRegisters).md5 = State.reset.md5 := rfl
@[simp] theorem State.resetRegisters_pend : (s.resetRegisters).pend = State.reset.pend := rfl
@[simp] theorem State.resetRegisters_presetn : (s.resetRegisters).presetn = s.presetn := rfl
@[simp] theorem State.resetRegisters_schedule : (s.resetRegisters).schedule = s.schedule := rfl
@[simp] theorem State.resetRegisters_resp : (s.resetRegisters).resp = s.resp := rfl
@[simp] theorem State.resetRegisters_draws : (s.resetRegisters).draws = s.draws := rfl

end

end Sys2Proof.Machine
end

