-- ==== Sys2Proof/Laws/Ops.lean ====
section
/-! SUPPORT. For each shared operation, one lemma that says once everything it can do; the provers cite these instead of
unfolding the operation. -/

namespace Sys2Proof.Machine

/-! ### Operands and checks -/

theorem State.busy_iff (s : State) : s.busy = true ↔ ∃ p, s.pend = some p := by
  simp [State.busy, Option.isSome_iff_exists]

theorem State.busy_false_iff (s : State) : s.busy = false ↔ s.pend = none := by
  simp [State.busy]

theorem withCommand_pending (s : State) (p : Pending) (run : Pending → State × Option ErrCode)
    (h : s.pend = some p) : withCommand s run = .next ((run p).1.complete (run p).2) := by
  simp [withCommand, h]

/-- If a meaning answers a next state, a command was pending and that state is its completion. -/
theorem withCommand_next (s t : State) (run : Pending → State × Option ErrCode)
    (h : withCommand s run = .next t) : ∃ p, s.pend = some p ∧ t = (run p).1.complete (run p).2 := by
  unfold withCommand at h
  split at h
  · cases h
  · rename_i p hp
    exact ⟨p, hp, (Host.Outcome.next.inj h).symm⟩

theorem withSource_inBounds (s : State) (p : Pending) (run : List Byte → State × Option ErrCode)
    (h : p.srcOff + p.length ≤ s.buf.size) :
    withSource s p run = run (s.buf.readBytes p.srcOff p.length) := by
  simp [withSource, Memory.inBounds, h]

theorem withSource_outOfBounds (s : State) (p : Pending) (run : List Byte → State × Option ErrCode)
    (h : ¬p.srcOff + p.length ≤ s.buf.size) : withSource s p run = (s, some .bounds) := by
  simp [withSource, Memory.inBounds, h]

theorem encCheck_none_iff (m : Memory) (pad : Bool) (p : Pending) : encCheck m pad p = none ↔
    (pad = true ∨ p.length % 16 = 0) ∧ p.srcOff + p.length ≤ m.size ∧
    p.dstOff + encOutLen pad p.length ≤ m.size := by
  unfold encCheck Memory.inBounds
  cases pad <;> split_ifs <;> simp_all

theorem decCheck_none_iff (m : Memory) (p : Pending) : decCheck m p = none ↔
    p.length ≠ 0 ∧ p.length % 16 = 0 ∧ p.srcOff + p.length ≤ m.size ∧ p.dstOff + p.length ≤ m.size := by
  unfold decCheck Memory.inBounds
  split_ifs <;> (simp_all; try omega)

/-- The region an abort leaves unspecified lies inside BUF. -/
theorem destRegion_inBounds (m : Memory) (p : Pending) (off n : Nat) (h : destRegion m p = some (off, n)) :
    off + n ≤ m.size := by
  unfold destRegion at h
  split at h
  · split_ifs at h with hc
    have := (encCheck_none_iff _ _ _).1 hc
    simp only [Option.some.injEq, Prod.mk.injEq] at h
    omega
  · split_ifs at h with hc
    have := (decCheck_none_iff _ _).1 hc
    simp only [Option.some.injEq, Prod.mk.injEq] at h
    omega
  · cases h

/-- While a command is pending, every meaning answers a next state. -/
theorem exec_next_of_pending (i : Instr) (s : State) (p : Pending) (h : s.pend = some p) :
    ∃ t, exec i s = .next t := by
  cases i <;> exact ⟨_, withCommand_pending s p _ h⟩

/-- Without a pending command, every meaning is the fault `noCommand`. -/
theorem exec_fault_of_idle (i : Instr) (s : State) (h : s.pend = none) : exec i s = .fault .noCommand := by
  have key (run : Pending → State × Option ErrCode) : withCommand s run = .fault .noCommand := by
    simp [withCommand, h]
  cases i <;> exact key _

/-- What the bytes of a byte array are after a write of one word. -/
theorem arrayWrite_getD {n : Nat} (v : Vector Byte n) (j : Nat) (d : Word) (strb : BitVec 4) (i : Nat) :
    ((arrayWrite v j d strb)[i]?).getD 0 =
      if i < n ∧ i / 4 = j ∧ strb.getLsbD (i % 4) = true then lane d (i % 4) else (v[i]?).getD 0 := by
  by_cases h : i < n <;> simp [arrayWrite, h]

/-- `md5Blocks` leaves over the bytes past its blocks. -/
theorem md5Blocks_rest (n : Nat) (m : Md5Chain) (bytes : List Byte) :
    (md5Blocks n m bytes).2 = bytes.drop (64 * n) := by
  induction n generalizing m bytes with
  | zero => rfl
  | succ n ih =>
    rw [md5Blocks, ih, List.drop_drop]
    congr 1
    omega

/-! ### Resets -/

/-- What an abort does: nothing, or the destination region of the pending command takes fresh unspecified bytes. -/
theorem State.abort_cases (s : State) : s.abort = s ∨ ∃ p off n, s.pend = some p ∧ off + n ≤ s.buf.size ∧
    destRegion s.buf p = some (off, n) ∧
    s.abort = { s with buf := s.buf.writeBytes off (freshBytes s.draws n), draws := s.draws + n } := by
  unfold State.abort
  split
  · rename_i off n h
    obtain ⟨p, hp, hd⟩ := Option.bind_eq_some_iff.1 h
    exact .inr ⟨p, off, n, hp, destRegion_inBounds _ _ _ _ hd, hd, rfl⟩
  · exact .inl rfl

@[simp] theorem freshBytes_length (k n : Nat) : (freshBytes k n).length = n := by simp [freshBytes]

theorem freshBytes_getD (k n i : Nat) (h : i < n) : (freshBytes k n).getD i 0 = Config.unspecByte (k + i) := by
  simp [freshBytes, List.getD, h]

/-- What a change of PRESETn does: nothing, or the reset that keeps BUF but for an abort. -/
theorem State.drivePresetn_cases (s : State) (level : Bool) :
    (level = true ∧ s.presetn = true ∧ s.drivePresetn level = s) ∨
    ((level = false ∨ s.presetn = false) ∧
      s.drivePresetn level = { s.abort.resetRegisters with presetn := level }) := by
  by_cases h : level = true ∧ s.presetn = true
  · exact .inl ⟨h.1, h.2, if_pos h⟩
  · refine .inr ⟨?_, if_neg h⟩
    cases level <;> simp_all

@[simp] theorem State.resetRegisters_resetRegisters (s : State) :
    s.resetRegisters.resetRegisters = s.resetRegisters := rfl

/-! ### The bus -/

/-- Everything an aligned or misaligned write can do (R38). -/
theorem State.writeTransfer_cases (s : State) (a : Addr) (d : Word) (strb : BitVec 4) :
    (s.busError (.write a d strb 0) = true ∧ s.writeTransfer a d strb = s) ∨
    (s.target a = .ctrl ∧ d[31] = true ∧ s.writeTransfer a d strb = s.resetKeepingBuf) ∨
    (s.target a = .status ∧ s.writeTransfer a d strb = s.acknowledge d) ∨
    (s.busy = true ∧ s.writeTransfer a d strb = { s with wbusy := true }) ∨
    (s.pend = none ∧ misaligned a = false ∧ s.writeTransfer a d strb = s.storeRegister (s.target a) d strb) := by
  by_cases h1 : (misaligned a || ((s.target a).wholeWord && strb != 0xF)) = true
  · exact .inl ⟨h1, by simp only [State.writeTransfer, h1, if_true]⟩
  simp only [State.writeTransfer, h1, Bool.false_eq_true, if_false]
  by_cases h2 : s.target a = .ctrl ∧ d[31] = true
  · exact .inr (.inl ⟨h2.1, h2.2, if_pos h2⟩)
  rw [if_neg h2]
  by_cases h3 : s.target a = .status
  · exact .inr (.inr (.inl ⟨h3, if_pos h3⟩))
  rw [if_neg h3]
  by_cases h4 : s.busy = true
  · exact .inr (.inr (.inr (.inl ⟨h4, if_pos h4⟩)))
  · rw [if_neg h4]
    refine .inr (.inr (.inr (.inr ⟨(State.busy_false_iff s).1 (Bool.eq_false_of_not_eq_true h4), ?_, rfl⟩)))
    simp only [Bool.or_eq_true, not_or, Bool.not_eq_true] at h1
    exact h1.1

/-- A read leaves the state as it is, but for the count of free values drawn (R39). -/
theorem State.readTransfer_state (s : State) (a : Addr) :
    (s.readTransfer a).2 = s ∨ (s.readTransfer a).2 = { s with draws := s.draws + 1 } := by
  unfold State.readTransfer
  split_ifs
  · exact .inl rfl
  · exact .inr rfl
  · exact .inl rfl

/-- Everything one transfer can do. -/
theorem State.transfer_cases (s : State) (x : Transfer) :
    (s.presetn = false ∧ s.transfer x = s.ignoredTransfer x) ∨
    (s.presetn = true ∧ ∃ a d strb prot, x = .write a d strb prot ∧
      s.transfer x = { s.writeTransfer a d strb with resp := some (.wrote (s.busError x)) }) ∨
    (s.presetn = true ∧ ∃ a prot, x = .read a prot ∧
      s.transfer x = { (s.readTransfer a).2 with resp := some (.read (s.readTransfer a).1 (s.busError x)) }) := by
  by_cases h : s.presetn = false
  · exact .inl ⟨h, by simp [State.transfer, h]⟩
  · have h' : s.presetn = true := by simpa using h
    cases x with
    | write a d strb prot => exact .inr (.inl ⟨h', a, d, strb, prot, rfl, by simp [State.transfer, h']⟩)
    | read a prot => exact .inr (.inr ⟨h', a, prot, rfl, by simp [State.transfer, h']⟩)

/-! ### The step -/

theorem step_idle (s : State) (h : s.schedule = []) : step s = engineTurn s := by
  simp only [step, h]

theorem step_engine (s : State) (rest : List Turn) (h : s.schedule = .engine :: rest) :
    step s = engineTurn { s with schedule := rest } := by
  simp only [step, h]

theorem step_bus (s : State) (x : Transfer) (rest : List Turn) (h : s.schedule = .bus x :: rest) :
    step s = .next ({ s with schedule := rest }.transfer x) := by
  simp only [step, h]

theorem step_presetn (s : State) (level : Bool) (rest : List Turn) (h : s.schedule = .presetn level :: rest) :
    step s = .next ({ s with schedule := rest }.drivePresetn level) := by
  simp only [step, h]

/-- The engine's turn on a latched word that decodes. -/
theorem engineTurn_ok (s : State) (p : Pending) (i : Instr) (hp : s.presetn = true) (h : s.pend = some p)
    (hd : decode p.word = .ok i) : engineTurn s = exec i s := by
  simp only [engineTurn, hp, State.fetch, h, Option.map_some, hd, Bool.true_eq_false, if_false]

/-- The engine's turn on an illegal latched word. -/
theorem engineTurn_error (s : State) (p : Pending) (e : DecodeError) (hp : s.presetn = true) (h : s.pend = some p)
    (hd : decode p.word = .error e) : engineTurn s = .next (s.complete (some .illegalCommand)) := by
  simp only [engineTurn, hp, State.fetch, h, Option.map_some, hd, Bool.true_eq_false, if_false]

/-- One more step of a run whose first step answers a next state. -/
theorem run_succ (k : Nat) (s t : State) (h : step s = .next t) :
    Sys2Proof.core.run (k + 1) s = Sys2Proof.core.run k t := by
  have h' : Sys2Proof.core.step s = .next t := h
  simp only [Host.Core.run, h']

/-- If a step answers a next state, one of these turns was taken. -/
theorem step_next_cases (s t : State) (h : step s = .next t) :
    (s.schedule = [] ∧ engineTurn s = .next t) ∨
    (∃ rest, s.schedule = .engine :: rest ∧ engineTurn { s with schedule := rest } = .next t) ∨
    (∃ x rest, s.schedule = .bus x :: rest ∧ t = { s with schedule := rest }.transfer x) ∨
    (∃ level rest, s.schedule = .presetn level :: rest ∧ t = { s with schedule := rest }.drivePresetn level) := by
  unfold step at h
  split at h
  · exact .inl ⟨by assumption, h⟩
  · exact .inr (.inl ⟨_, by assumption, h⟩)
  · exact .inr (.inr (.inl ⟨_, _, by assumption, (Host.Outcome.next.inj h).symm⟩))
  · exact .inr (.inr (.inr ⟨_, _, by assumption, (Host.Outcome.next.inj h).symm⟩))

/-- If the engine's turn answers a next state, the engine was idle or held in reset, or it ran a command, or it completed
an illegal word. -/
theorem engineTurn_next_cases (s t : State) (h : engineTurn s = .next t) :
    ((s.presetn = false ∨ s.pend = none) ∧ t = s) ∨
    (∃ p i, s.pend = some p ∧ decode p.word = .ok i ∧ exec i s = .next t) ∨
    (∃ p e, s.pend = some p ∧ decode p.word = .error e ∧ t = s.complete (some .illegalCommand)) := by
  unfold engineTurn at h
  split_ifs at h with hp
  · exact .inl ⟨.inl hp, (Host.Outcome.next.inj h).symm⟩
  · cases hq : s.pend with
    | none =>
      simp only [State.fetch, hq, Option.map_none] at h
      exact .inl ⟨.inr rfl, (Host.Outcome.next.inj h).symm⟩
    | some p =>
      cases hd : decode p.word with
      | ok i =>
        simp only [State.fetch, hq, Option.map_some, hd] at h
        exact .inr (.inl ⟨p, i, rfl, hd, h⟩)
      | error e =>
        simp only [State.fetch, hq, Option.map_some, hd] at h
        exact .inr (.inr ⟨p, e, rfl, hd, (Host.Outcome.next.inj h).symm⟩)

end Sys2Proof.Machine
end

