-- ==== Sys2Proof/Laws/Bus.lean ====
section
/-! SUPPORT. The laws of the register bus: what each control offset names, what a write does in each case of R38 and a
read in each case of R39, and the byte lanes of a word. -/

namespace Sys2Proof.Machine

/-! ### The register map (R12) -/

@[simp] theorem State.target_id (s : State) : s.target 0#13 = .id := rfl
@[simp] theorem State.target_ctrl (s : State) : s.target 4#13 = .ctrl := rfl
@[simp] theorem State.target_status (s : State) : s.target 8#13 = .status := rfl
@[simp] theorem State.target_cmd (s : State) : s.target 12#13 = .cmd := rfl
@[simp] theorem State.target_src (s : State) : s.target 16#13 = .src := rfl
@[simp] theorem State.target_dst (s : State) : s.target 20#13 = .dst := rfl
@[simp] theorem State.target_len (s : State) : s.target 24#13 = .len := rfl
@[simp] theorem State.target_outlen (s : State) : s.target 28#13 = .outlen := rfl
@[simp] theorem State.target_chk (s : State) : s.target 32#13 = .chk := rfl
@[simp] theorem State.target_chkref (s : State) : s.target 36#13 = .chkref := rfl
@[simp] theorem State.target_crccfg (s : State) : s.target 40#13 = .crccfg := rfl
@[simp] theorem State.target_g1cfg (s : State) : s.target 44#13 = .g1cfg := rfl
@[simp] theorem State.target_xlat (s : State) : s.target 48#13 = .xlat := rfl

/-- Every target from the byte arrays on is an array word, a buffer word or reserved (R12). -/
theorem targetOf_high (size a : Nat) (h : 0x040 ≤ a) :
    (∃ r j, targetOf size a = .array r j) ∨ (∃ k, targetOf size a = .buf k) ∨ targetOf size a = .reserved := by
  generalize ht : targetOf size a = t
  unfold targetOf at ht
  rw [if_neg (by omega)] at ht
  repeat' split at ht
  all_goals
    subst ht
    first | exact .inl ⟨_, _, rfl⟩ | exact .inr (.inl ⟨_, rfl⟩) | exact .inr (.inr rfl)

/-- The control offsets: one for each register (R12). -/
theorem controlTarget_offsets : ∀ n, n < 0x040 →
    (controlTarget n = .status ↔ n = 8) ∧ (controlTarget n = .ctrl ↔ n = 4) ∧ (controlTarget n = .cmd ↔ n = 12) ∧
    (controlTarget n = .xlat ↔ n = 48) := by
  decide

theorem State.target_low (s : State) (a : Addr) (h : a.toNat < 0x040) : s.target a = controlTarget a.toNat := by
  simp [State.target, targetOf, h]

/-- Which offsets name STATUS, CTRL, CMD and XLAT. -/
theorem State.target_eq_iff (s : State) (a : Addr) :
    (s.target a = .status ↔ a = 8#13) ∧ (s.target a = .ctrl ↔ a = 4#13) ∧ (s.target a = .cmd ↔ a = 12#13) ∧
    (s.target a = .xlat ↔ a = 48#13) := by
  have hn (n : Nat) (h : n < 2 ^ 13) : a = BitVec.ofNat 13 n ↔ a.toNat = n :=
    ⟨fun e => by rw [e, BitVec.toNat_ofNat, Nat.mod_eq_of_lt h],
      fun e => BitVec.eq_of_toNat_eq (by rw [e, BitVec.toNat_ofNat, Nat.mod_eq_of_lt h])⟩
  rw [hn 8 (by decide), hn 4 (by decide), hn 12 (by decide), hn 48 (by decide)]
  by_cases h : a.toNat < 0x040
  · rw [State.target_low s a h]
    exact controlTarget_offsets a.toNat h
  · have h' : 0x040 ≤ a.toNat := by omega
    rcases targetOf_high s.buf.size a.toNat h' with ⟨r, j, e⟩ | ⟨k, e⟩ | e <;>
      simp only [State.target, e, reduceCtorEq, false_iff] <;> omega

theorem State.target_eq_status (s : State) (a : Addr) : s.target a = .status ↔ a = 8#13 := (s.target_eq_iff a).1
theorem State.target_eq_ctrl (s : State) (a : Addr) : s.target a = .ctrl ↔ a = 4#13 := (s.target_eq_iff a).2.1
theorem State.target_eq_cmd (s : State) (a : Addr) : s.target a = .cmd ↔ a = 12#13 := (s.target_eq_iff a).2.2.1
theorem State.target_eq_xlat (s : State) (a : Addr) : s.target a = .xlat ↔ a = 48#13 := (s.target_eq_iff a).2.2.2

/-! ### One transfer outside reset -/

theorem State.transfer_write (s : State) (a : Addr) (d : Word) (strb : BitVec 4) (prot : BitVec 3)
    (h : s.presetn = true) : s.transfer (.write a d strb prot) =
      { s.writeTransfer a d strb with resp := some (.wrote (s.busError (.write a d strb prot))) } := by
  simp [State.transfer, h]

theorem State.transfer_read (s : State) (a : Addr) (prot : BitVec 3) (h : s.presetn = true) :
    s.transfer (.read a prot) =
      { (s.readTransfer a).2 with resp := some (.read (s.readTransfer a).1 (misaligned a)) } := by
  simp [State.transfer, h, State.busError]

/-- What no write changes: the pin, the waiting turns, the recorded answer, the size of BUF. -/
theorem State.writeTransfer_keeps (s : State) (a : Addr) (d : Word) (strb : BitVec 4) :
    (s.writeTransfer a d strb).presetn = s.presetn ∧ (s.writeTransfer a d strb).schedule = s.schedule ∧
    (s.writeTransfer a d strb).resp = s.resp ∧ (s.writeTransfer a d strb).buf.size = s.buf.size := by
  rcases s.writeTransfer_cases a d strb with ⟨-, h⟩ | ⟨-, -, h⟩ | ⟨-, h⟩ | ⟨-, h⟩ | ⟨-, -, h⟩ <;> rw [h]
  · exact ⟨rfl, rfl, rfl, rfl⟩
  · rcases s.abort_cases with e | ⟨p, off, n, -, -, -, e⟩ <;> simp [State.resetKeepingBuf, e]
  · exact ⟨rfl, rfl, rfl, rfl⟩
  · exact ⟨rfl, rfl, rfl, rfl⟩
  · generalize s.target a = t
    cases t with
    | array r j => cases r <;> simp [State.storeRegister, State.writeArray]
    | _ => simp [State.storeRegister]

/-- What no transfer changes: the pin, the waiting turns, the size of BUF. -/
theorem State.transfer_keeps (s : State) (x : Transfer) :
    (s.transfer x).presetn = s.presetn ∧ (s.transfer x).schedule = s.schedule ∧
    (s.transfer x).buf.size = s.buf.size := by
  rcases s.transfer_cases x with ⟨-, h⟩ | ⟨-, a, d, strb, prot, rfl, h⟩ | ⟨-, a, prot, rfl, h⟩ <;> rw [h]
  · cases x <;> exact ⟨rfl, rfl, rfl⟩
  · obtain ⟨h1, h2, -, h4⟩ := s.writeTransfer_keeps a d strb
    exact ⟨h1, h2, h4⟩
  · rcases s.readTransfer_state a with e | e <;> rw [e] <;> exact ⟨rfl, rfl, rfl⟩

/-! ### Writes, by the cases of R38 -/

theorem State.writeTransfer_busError (s : State) (a : Addr) (d : Word) (strb : BitVec 4) (prot : BitVec 3)
    (h : s.busError (.write a d strb prot) = true) : s.writeTransfer a d strb = s := by
  simp only [State.busError] at h
  simp only [State.writeTransfer, h, if_true]

theorem State.writeTransfer_softReset (s : State) (d : Word) (h : d[31] = true) :
    s.writeTransfer 4#13 d 15#4 = s.resetKeepingBuf := by
  simp [State.writeTransfer, misaligned, h]

theorem State.writeTransfer_status (s : State) (d : Word) : s.writeTransfer 8#13 d 15#4 = s.acknowledge d := by
  simp [State.writeTransfer, misaligned]

/-- A write that is no bus error, no soft reset and not to STATUS, while BUSY = 1. -/
theorem State.writeTransfer_dropped (s : State) (a : Addr) (d : Word) (strb : BitVec 4) (prot : BitVec 3)
    (hb : s.busy = true) (he : s.busError (.write a d strb prot) = false) (hs : a ≠ 8#13)
    (hr : ¬(a = 4#13 ∧ d[31] = true)) : s.writeTransfer a d strb = { s with wbusy := true } := by
  simp only [State.busError] at he
  simp only [State.writeTransfer, he, Bool.false_eq_true, if_false, State.target_eq_ctrl, State.target_eq_status, hr,
    hs, hb, if_true]

/-- A write that is no bus error, no soft reset and not to STATUS, while BUSY = 0. -/
theorem State.writeTransfer_stored (s : State) (a : Addr) (d : Word) (strb : BitVec 4) (prot : BitVec 3)
    (hb : s.busy = false) (he : s.busError (.write a d strb prot) = false) (hs : a ≠ 8#13)
    (hr : ¬(a = 4#13 ∧ d[31] = true)) : s.writeTransfer a d strb = s.storeRegister (s.target a) d strb := by
  simp only [State.busError] at he
  simp only [State.writeTransfer, he, Bool.false_eq_true, if_false, State.target_eq_ctrl, State.target_eq_status, hr,
    hs, hb]

/-! ### Reads, by the cases of R39 -/

theorem State.readTransfer_misaligned (s : State) (a : Addr) (h : misaligned a = true) :
    s.readTransfer a = (0, s) := by
  simp [State.readTransfer, h]

theorem State.readTransfer_unspecified (s : State) (a : Addr) (h : misaligned a = false) (hb : s.busy = true)
    (ho : (s.target a).engineOwned = true) :
    s.readTransfer a = (Config.unspecWord s.draws, { s with draws := s.draws + 1 }) := by
  simp only [State.readTransfer, h, hb, ho, Bool.and_true, if_true, Bool.false_eq_true, if_false]

theorem State.readTransfer_contents (s : State) (a : Addr) (h : misaligned a = false)
    (ho : ¬(s.busy = true ∧ (s.target a).engineOwned = true)) :
    s.readTransfer a = (s.readTarget (s.target a), s) := by
  have : (s.busy && (s.target a).engineOwned) = false := by
    rw [← Bool.not_eq_true, Bool.and_eq_true]; exact ho
  simp only [State.readTransfer, h, this, Bool.false_eq_true, if_false]

/-! ### Lanes -/

/-- Lane `b` of a word is the `b`-th of its bytes. -/
@[simp] theorem lane_wordOfBytes (b0 b1 b2 b3 : Byte) :
    lane (wordOfBytes b0 b1 b2 b3) 0 = b0 ∧ lane (wordOfBytes b0 b1 b2 b3) 1 = b1 ∧
    lane (wordOfBytes b0 b1 b2 b3) 2 = b2 ∧ lane (wordOfBytes b0 b1 b2 b3) 3 = b3 := by
  refine ⟨?_, ?_, ?_, ?_⟩ <;>
  · apply BitVec.eq_of_getLsbD_eq
    intro i hi
    simp only [lane, wordOfBytes, BitVec.getLsbD_extractLsb', BitVec.getLsbD_append, hi, decide_true, Bool.true_and]
    split_ifs <;> first | omega | (congr 1; omega)

/-- A word is made of its four lanes. -/
theorem wordOfBytes_lanes (w : Word) : wordOfBytes (lane w 0) (lane w 1) (lane w 2) (lane w 3) = w := by
  apply BitVec.eq_of_getLsbD_eq
  intro i hi
  simp only [lane, wordOfBytes, BitVec.getLsbD_extractLsb', BitVec.getLsbD_append]
  split_ifs <;> (rw [decide_eq_true (by omega), Bool.true_and]; congr 1; omega)

/-- Each lane of a merged word: the lane written where its strobe is set, else the lane as it was. -/
theorem lane_mergeLanes (old d : Word) (strb : BitVec 4) (b : Nat) (h : b < 4) :
    lane (mergeLanes old d strb) b = if strb.getLsbD b = true then lane d b else lane old b := by
  have : b = 0 ∨ b = 1 ∨ b = 2 ∨ b = 3 := by omega
  rcases this with rfl | rfl | rfl | rfl <;> simp [mergeLanes]

end Sys2Proof.Machine
end

