-- ==== Sys2Proof/Laws/PerInstr.lean ====
section
/-! SUPPORT. The per-instruction family EncodeFields: the fields of a command's word are the fields the command stands
for, which are legal (30_encoding.md R50, R53). One lemma per constructor of `Instr`. -/

namespace Sys2Proof.Laws.EncodeFields

/-- The word of `i`, cut into the fields of CMD32, is the record of fields of `i`, and it is legal. -/
def Statement (i : Instr) : Prop := cmd32OfWord (encode i) = i.fields ∧ i.wf = true

theorem nop : Statement .nop := by unfold Statement; decide
theorem crc8Ivenc : Statement .crc8Ivenc := by unfold Statement; decide
theorem crc8Buf : Statement .crc8Buf := by unfold Statement; decide
theorem lrcBuf : Statement .lrcBuf := by unfold Statement; decide
theorem gchkIvenc : Statement .gchkIvenc := by unfold Statement; decide
theorem verifyG0 : Statement .verifyG0 := by unfold Statement; decide
theorem verifyG1 : Statement .verifyG1 := by unfold Statement; decide
theorem md5Init : Statement .md5Init := by unfold Statement; decide
theorem md5Update : Statement .md5Update := by unfold Statement; decide
theorem md5UpdateSumb : Statement .md5UpdateSumb := by unfold Statement; decide
theorem md5Final (dest : DigestDest) : Statement (.md5Final dest) := by unfold Statement; cases dest <;> decide
theorem cmpDigest : Statement .cmpDigest := by unfold Statement; decide
theorem kdHex : Statement .kdHex := by unfold Statement; decide
theorem kdUuid : Statement .kdUuid := by unfold Statement; decide
theorem kdG0 : Statement .kdG0 := by unfold Statement; decide
theorem kdG1 : Statement .kdG1 := by unfold Statement; decide
theorem ivMaskG0 : Statement .ivMaskG0 := by unfold Statement; decide
theorem ivMaskG1 : Statement .ivMaskG1 := by unfold Statement; decide
theorem ivUnmaskG0 : Statement .ivUnmaskG0 := by unfold Statement; decide
theorem ivUnmaskG1 : Statement .ivUnmaskG1 := by unfold Statement; decide
theorem aesCbcEnc (pad : Bool) : Statement (.aesCbcEnc pad) := by unfold Statement; cases pad <;> decide
theorem aesCbcDec (pad : Bool) : Statement (.aesCbcDec pad) := by unfold Statement; cases pad <;> decide

end Sys2Proof.Laws.EncodeFields
end

