-- ==== Sys2Proof/Tests/Slice0.lean ====
section
/-! SUPPORT. The model's own tests: ill-formed fields that the checks refuse, words written out from the encoding, a few
one-step tests per command with results taken from the spec (the rule or the section of 95_test_vectors.md is named),
and, for each statement with hypotheses, a state and operands that meet them. -/

namespace Sys2Proof.Machine

/-! ### Helpers -/

/-- What `f` sees in the next state an outcome answers. -/
def after {α : Type} (o : Host.Outcome State Fault Refusal) (f : State → α) : Option α :=
  match o with
  | .next t => some (f t)
  | _ => none

/-- The `n`-byte string written as one hex numeral, its first byte first. -/
def hexBytes (n w : Nat) : List Byte := (List.range n).map fun i => BitVec.ofNat 8 (w >>> (8 * (n - 1 - i)))

/-- The same for a byte-array register. -/
def hexArray (n w : Nat) : Vector Byte n := Vector.ofFn fun i => BitVec.ofNat 8 (w >>> (8 * (n - 1 - i.val)))

/-- The reset machine with a command pending on these operands. -/
def pendingOn (src dst len : Word) : State := { State.reset with pend := some ⟨0, src, dst, len⟩ }

/-- The same with a byte string in BUF. -/
def pendingWith (off : Nat) (x : List Byte) (src dst len : Word) : State :=
  { pendingOn src dst len with buf := Memory.powerOn.writeBytes off x }

/-- The reset machine with a word latched. -/
def latched (w : Word) : State := { State.reset with cmd := w, pend := some ⟨w, 0, 0, 0⟩ }

/-- `K = 00 01 .. 1F` of 95_test_vectors.md. -/
def testKey : Vector Byte 32 := Vector.ofFn fun i => BitVec.ofNat 8 i.val

/-- `IV = 00 01 .. 0F` of 95_test_vectors.md. -/
def testIv : Vector Byte 16 := Vector.ofFn fun i => BitVec.ofNat 8 i.val

/-- MD5("abc"), R101. -/
def sumAbc : Vector Byte 16 := hexArray 16 0x900150983CD24FB0D6963F7D28E17F72

/-- The 32 characters of `sumHex("abc")`, R101. -/
def sumHexAbc : Vector Byte 32 := hexArray 32 0x3930303135303938334344323446423044363936334637443238453137463732

/-- "123456789", R84. -/
def digits : List Byte := hexBytes 9 0x313233343536373839

/-! ### Well-formedness (R50, R53) -/

/-- A reserved opcode: 0x42 of R59. -/
theorem test_wf_refuses_reserved_opcode :
    Cmd32.opDefined ⟨0x42, false, false, 0⟩ = false ∧ Cmd32.wf ⟨0x42, false, false, 0⟩ = false := by decide
/-- PAD on MD5_FINAL (0x123 of R59) and on CRC8_IVENC (0x110 of R59). -/
theorem test_wf_refuses_pad : Cmd32.padAllowed ⟨0x23, true, false, 0⟩ = false ∧
    Cmd32.wf ⟨0x23, true, false, 0⟩ = false ∧ Cmd32.wf ⟨0x10, true, false, 0⟩ = false := by decide
/-- DEST on AES_CBC_ENC: bit 9 set is illegal, R119. -/
theorem test_wf_refuses_dest : Cmd32.destAllowed ⟨0x40, false, true, 0⟩ = false ∧
    Cmd32.wf ⟨0x40, false, true, 0⟩ = false := by decide
/-- Bit 10 of NOP: 0x400 of R59; and bit 31. -/
theorem test_wf_refuses_reserved_bits : Cmd32.rsvdZero ⟨0x00, false, false, 1⟩ = false ∧
    Cmd32.wf ⟨0x00, false, false, 1⟩ = false ∧ Cmd32.wf ⟨0x00, false, false, 0x200000⟩ = false := by decide
theorem test_wf_accepts : Instr.wf .nop = true ∧ Instr.wf (.md5Final .sum) = true ∧
    Instr.wf (.aesCbcEnc true) = true ∧ Instr.wf (.aesCbcDec true) = true := by decide

/-! ### Decoding: every constructor, from a word written out bit by bit (R50: bits 31:10 zero, DEST, PAD, OP) -/

theorem test_decode_nop : decode 0b0000000000000000000000_0_0_00000000 = .ok .nop := by decide
theorem test_decode_crc8_ivenc : decode 0b0000000000000000000000_0_0_00010000 = .ok .crc8Ivenc := by decide
theorem test_decode_crc8_buf : decode 0b0000000000000000000000_0_0_00010001 = .ok .crc8Buf := by decide
theorem test_decode_lrc_buf : decode 0b0000000000000000000000_0_0_00010010 = .ok .lrcBuf := by decide
theorem test_decode_gchk_ivenc : decode 0b0000000000000000000000_0_0_00010011 = .ok .gchkIvenc := by decide
theorem test_decode_verify_g0 : decode 0b0000000000000000000000_0_0_00010100 = .ok .verifyG0 := by decide
theorem test_decode_verify_g1 : decode 0b0000000000000000000000_0_0_00010101 = .ok .verifyG1 := by decide
theorem test_decode_md5_init : decode 0b0000000000000000000000_0_0_00100000 = .ok .md5Init := by decide
theorem test_decode_md5_update : decode 0b0000000000000000000000_0_0_00100001 = .ok .md5Update := by decide
theorem test_decode_md5_update_sumb : decode 0b0000000000000000000000_0_0_00100010 = .ok .md5UpdateSumb := by decide
theorem test_decode_md5_final : decode 0b0000000000000000000000_0_0_00100011 = .ok (.md5Final .digest) := by decide
theorem test_decode_md5_final_sum : decode 0b0000000000000000000000_1_0_00100011 = .ok (.md5Final .sum) := by decide
theorem test_decode_cmp_digest : decode 0b0000000000000000000000_0_0_00100100 = .ok .cmpDigest := by decide
theorem test_decode_kd_hex : decode 0b0000000000000000000000_0_0_00110000 = .ok .kdHex := by decide
theorem test_decode_kd_uuid : decode 0b0000000000000000000000_0_0_00110001 = .ok .kdUuid := by decide
theorem test_decode_kd_g0 : decode 0b0000000000000000000000_0_0_00110010 = .ok .kdG0 := by decide
theorem test_decode_kd_g1 : decode 0b0000000000000000000000_0_0_00110011 = .ok .kdG1 := by decide
theorem test_decode_iv_mask_g0 : decode 0b0000000000000000000000_0_0_00110100 = .ok .ivMaskG0 := by decide
theorem test_decode_iv_mask_g1 : decode 0b0000000000000000000000_0_0_00110101 = .ok .ivMaskG1 := by decide
theorem test_decode_iv_unmask_g0 : decode 0b0000000000000000000000_0_0_00110110 = .ok .ivUnmaskG0 := by decide
theorem test_decode_iv_unmask_g1 : decode 0b0000000000000000000000_0_0_00110111 = .ok .ivUnmaskG1 := by decide
theorem test_decode_aes_cbc_enc : decode 0b0000000000000000000000_0_0_01000000 = .ok (.aesCbcEnc false) := by decide
theorem test_decode_aes_cbc_enc_pad : decode 0b0000000000000000000000_0_1_01000000 = .ok (.aesCbcEnc true) := by decide
theorem test_decode_aes_cbc_dec : decode 0b0000000000000000000000_0_0_01000001 = .ok (.aesCbcDec false) := by decide
theorem test_decode_aes_cbc_dec_pad : decode 0b0000000000000000000000_0_1_01000001 = .ok (.aesCbcDec true) := by decide

/-- The illegal words of R59. -/
theorem test_decode_refuses : decode 0x00000042 = .error .reservedOpcode ∧ decode 0x00000123 = .error .flagNotAllowed ∧
    decode 0x00000110 = .error .flagNotAllowed ∧ decode 0x00000240 = .error .flagNotAllowed ∧
    decode 0x00000400 = .error .reservedBits ∧ decode 0x80000041 = .error .reservedBits ∧
    decodeBytes [0x41, 0x01, 0x00] = .error .truncated := by decide
/-- R42: the byte at the lowest address is bits 7:0. -/
theorem test_decode_bytes :
    decodeBytes [0x41, 0x01, 0x00, 0x00, 0xAA] = .ok (.aesCbcDec true, [0xAA]) ∧
    encodeBytes (.md5Final .sum) = [0x23, 0x02, 0x00, 0x00] := by decide
theorem test_encode : encode .nop = 0 ∧ encode (.md5Final .sum) = 0x223 ∧ encode (.aesCbcEnc true) = 0x140 ∧
    encode (.aesCbcDec true) = 0x141 ∧ encode .ivUnmaskG1 = 0x37 := by decide
theorem test_table_words : decodeTableWord 32 0x141 = some (.aesCbcDec true) ∧
    decodeTableWord 8 0x24 = some .cmpDigest ∧ decodeTableWord 32 0x42 = none := by decide

/-! ### Registers, bus and step -/

/-- R15, R53, R132: an illegal word ends with STATUS = 0x00000106. -/
theorem test_step_illegal : after (step (latched 0x42)) State.statusWord = some 0x00000106 := by decide
/-- R65: STATUS is 0x00000001 before completion and 0x00000002 after. -/
theorem test_step_nop : (latched 0).statusWord = 0x00000001 ∧
    after (step (latched 0)) State.statusWord = some 0x00000002 := by decide
/-- The table word of AES_CBC_DEC.pad runs as the first command after reset: LEN = 0 fails its length rule (R120). -/
theorem test_step_withFetchWord :
    after (step (State.reset.withFetchWord 32 0x141)) State.statusWord = some 0x00000306 := by decide
/-- R35: the words that do not reset to 0. -/
theorem test_reset_words : State.reset.wordAt 0x000 = 0xCB070100 ∧ State.reset.wordAt 0x028 = 0x00000007 ∧
    State.reset.wordAt 0x02C = 0x00000009 ∧ State.reset.statusWord = 0 := by decide
/-- 95_test_vectors.md P4, lines 47 to 50: bus errors have no effect. -/
theorem test_bus_errors :
    (State.reset.transfer (wr 0x011 1)).resp = some (.wrote true) ∧
    (State.reset.transfer (rd 0x012)).resp = some (.read 0 true) ∧
    (State.reset.transfer (wrStrobed 0x004 1 1)).resp = some (.wrote true) ∧
    (State.reset.transfer (wrStrobed 0x004 1 1)).ctrl = Ctrl.reset := by decide
/-- P4, lines 51 and 52: strobes on KEY. -/
theorem test_strobes : (State.reset.transfer (wrStrobed 0x040 0xDDCCBBAA 0b0011)).wordAt 0x040 = 0x0000BBAA := by
  decide
/-- P4, lines 38 to 42: SRC is dropped and sets WBUSY, a STATUS write clears it, LEN sets it again. -/
theorem test_busy_writes :
    let s := ((latched 0).transfer (wr 0x010 0x1234)).transfer (wr 0x008 0x8)
    s.statusWord = 0x00000001 ∧ s.src = 0 ∧ (s.transfer (wr 0x018 0x10)).statusWord = 0x00000009 := by decide
/-- 95_test_vectors.md 3.2: XLAT of 0xFFFFFF5A reads 0x005A775A, of 0x01 reads 0x01800101. -/
theorem test_xlat : (State.reset.transfer (wr 0x030 0xFFFFFF5A)).wordAt 0x030 = 0x005A775A ∧
    (State.reset.transfer (wr 0x030 0x01)).wordAt 0x030 = 0x01800101 := by decide
/-- R59: `wrbytes 6, AA BB CC`, and the two words it fills. -/
theorem test_wrbytes : wrbytes 6 [0xAA, 0xBB, 0xCC] =
    [wrStrobed 0x1004 0xBBAA0000 0b1100, wrStrobed 0x1008 0x000000CC 0b0001] := by decide
/-- P4, lines 68 to 72: an abort by a soft reset; the destination region is 32 bytes for LEN = 16 with PAD. -/
theorem test_abort :
    let s : State := { latched 0x140 with pend := some ⟨0x140, 0, 0x300, 16⟩ }
    let t := s.transfer (wr 0x004 0x80000000)
    t.statusWord = 0 ∧ t.pend = none ∧ t.draws = 32 ∧ (t.buf.cells.map Prod.fst).head? = some 0x300 := by decide
/-- P4, lines 3 to 9: IRQ = IRQEN AND DONE. -/
theorem test_irq :
    let s := State.reset.transfer (wr 0x004 4)
    s.irq = false ∧ (s.complete none).irq = true ∧ ((s.complete none).transfer clr).irq = false := by decide

/-! ### Checksums (42_checksum.md; 95_test_vectors.md 3.3) -/

/-- R83: the example, and sixteen bytes 0xFF. -/
theorem test_crc8_ivenc :
    after (exec .crc8Ivenc { pendingOn 0 0 0 with ivenc := hexArray 16 0x9000529B38D749B7DE9F357624EC717D })
      (fun t => (t.chk, t.statusWord)) = some (⟨0xB1, 0, 0, 0⟩, 2) ∧
    after (exec .crc8Ivenc { pendingOn 0 0 0 with ivenc := Vector.replicate 16 0xFF }) (fun t => t.chk.crc) =
      some 0xFA := by decide +kernel
/-- R84: "123456789" under the reset profile and under 0x03000031. -/
theorem test_crc8_buf :
    after (exec .crc8Buf (pendingWith 0 digits 0 0 9)) (fun t => t.chk) = some ⟨0xF4, 0, 0, 0⟩ ∧
    after (exec .crc8Buf { pendingWith 0 digits 0 0 9 with crccfg := CrcCfg.ofWord 0x03000031 })
      (fun t => t.chk.crc) = some 0xA1 := by decide +kernel
/-- 95_test_vectors.md 3.1: bounds, and 3.3: the empty input under 0x0300FF07. -/
theorem test_crc8_buf_bounds :
    after (exec .crc8Buf { pendingOn 4096 0 0 with crccfg := CrcCfg.ofWord 0x0300FF07 })
      (fun t => (t.chk.crc, t.statusWord)) = some (0xFF, 2) ∧
    after (exec .crc8Buf (pendingOn 0xFFFFFFF0 0 0x20)) (fun t => (t.chk.crc, t.statusWord)) = some (0, 0x206) := by
  decide
/-- R85: the example, from offset 4087, and one byte too far. -/
theorem test_lrc_buf :
    after (exec .lrcBuf (pendingWith 4087 digits 4087 0 9)) (fun t => t.chk) = some ⟨0, 0, 0x23, 0⟩ ∧
    after (exec .lrcBuf (pendingWith 4087 digits 4088 0 9)) (fun t => (t.chk.lrc, t.statusWord)) =
      some (0, 0x206) := by decide
/-- R86: the example, 97 C2 A7, and 0x17 with GPREV0 = 1. -/
theorem test_gchk_ivenc :
    after (exec .gchkIvenc { pendingOn 0 0 0 with ivenc := hexArray 16 0x6FFFAD64C728B6482160CA89DB138E82 })
      (fun t => t.chk) = some ⟨0, 0x97, 0xC2, 0xA7⟩ ∧
    after (exec .gchkIvenc { pendingOn 0 0 0 with
        ivenc := hexArray 16 0x6FFFAD64C728B6482160CA89DB138E82, g1cfg := G1Cfg.ofWord 0x109 })
      (fun t => t.chk.g1) = some 0x17 := by decide
/-- R87: the example, CHKREF.CRC right and wrong. -/
theorem test_verify_g0 :
    let s : State := { pendingOn 0 0 0 with ivenc := hexArray 16 0x9000529B38D749B7DE9F357624EC717D }
    after (exec .verifyG0 { s with chkref := Checks.ofWord 0x000000B1 }) (fun t => (t.statusWord, t.chk.crc)) =
      some (0x002, 0xB1) ∧
    after (exec .verifyG0 { s with chkref := Checks.ofWord 0x000000B0 }) (fun t => (t.statusWord, t.chk.crc)) =
      some (0x506, 0xB1) := by decide +kernel
/-- 95_test_vectors.md 3.3: CHKREF.CRC is not compared; byte 5 bit 3 flipped is caught. -/
theorem test_verify_g1 :
    after (exec .verifyG1 { pendingOn 0 0 0 with
        ivenc := hexArray 16 0x1969E7ECC08FD90F4DEE656B61FD67C6, chkref := Checks.ofWord 0x3EDEBC5A })
      (fun t => (t.statusWord, t.chk.toWord)) = some (0x002, 0x3EDEBC00) ∧
    after (exec .verifyG1 { pendingOn 0 0 0 with
        ivenc := hexArray 16 0x1969E7ECC087D90F4DEE656B61FD67C6, chkref := Checks.ofWord 0x3EDEBC00 })
      (fun t => (t.statusWord, t.chk.toWord)) = some (0x506, 0x3EE6BA00) := by decide

/-! ### MD5 (43_md5.md; 95_test_vectors.md 3.4) -/

/-- R93: a new context. -/
theorem test_md5_init : after (exec .md5Init { pendingOn 0 0 0 with md5 := Md5Context.init.absorb digits })
    (fun t => t.md5) = some Md5Context.init := by decide
/-- 3.4: "abc" in BUF; and out of bounds the context is unchanged. -/
theorem test_md5_update :
    after (exec .md5Update (pendingWith 5 [0x61, 0x62, 0x63] 5 0 3)) (fun t => t.md5.finalise) =
      some (hexBytes 16 0x900150983CD24FB0D6963F7D28E17F72) ∧
    after (exec .md5Update (pendingOn 0xFFFFFFF0 0 0x20)) (fun t => (t.md5, t.statusWord)) =
      some (Md5Context.init, 0x206) := by decide +kernel
/-- 3.4: SUMB of "abc" from the initial context. -/
theorem test_md5_update_sumb :
    after (exec .md5UpdateSumb { pendingOn 0 0 0 with sumb := sumHexAbc }) (fun t => t.md5.finalise) =
      some (hexBytes 16 0x1CEB3E00BFA610E1C55453734A5C6B7E) := by decide +kernel
/-- 3.4: the digest of the empty message, to DIGEST and to SUM; the other array and a new context. -/
theorem test_md5_final :
    after (exec (.md5Final .digest) { pendingOn 0 0 0 with sum := sumAbc }) (fun t => (t.digest, t.sum, t.md5)) =
      some (hexArray 16 0xD41D8CD98F00B204E9800998ECF8427E, sumAbc, Md5Context.init) ∧
    after (exec (.md5Final .sum) (pendingOn 0 0 0)) (fun t => (t.sum, t.digest)) =
      some (hexArray 16 0xD41D8CD98F00B204E9800998ECF8427E, Vector.replicate 16 0) := by decide +kernel
/-- 3.4: 55, 56 and 64 zero bytes: the padding on both sides of a block's end. -/
theorem test_md5_padding :
    md5 (List.replicate 55 0) = hexBytes 16 0xC9EA3314B91C9FD4E38F9432064FD1F2 ∧
    md5 (List.replicate 56 0) = hexBytes 16 0xE3C4DD21A9171FD39D208EFA09BF7883 ∧
    (Md5Context.init.absorb (List.replicate 64 0)).finalise = hexBytes 16 0x3B5D3C7D207E37DCEEEDD301E35E2E58 := by
  decide +kernel
/-- R97: equal, and one byte different. -/
theorem test_cmp_digest : after (exec .cmpDigest (pendingOn 0 0 0)) State.statusWord = some 0x002 ∧
    after (exec .cmpDigest { pendingOn 0 0 0 with ref := hexArray 16 1 }) State.statusWord = some 0x606 := by
  decide

/-! ### Key and IV derivation (44_key_derivation.md; 95_test_vectors.md 3.5) -/

/-- R101: MD5("abc") in upper case; and lower case of 0xFF. -/
theorem test_kd_hex : after (exec .kdHex { pendingOn 0 0 0 with sum := sumAbc }) (fun t => t.sumb) = some sumHexAbc ∧
    after (exec .kdHex { pendingOn 0 0 0 with sum := Vector.replicate 16 0xFF, ctrl := ⟨false, true, false⟩ })
      (fun t => t.sumb) = some (Vector.replicate 32 0x66) := by decide
/-- R102: the example. -/
theorem test_kd_uuid : after (exec .kdUuid { pendingOn 0 0 0 with
    sum := hexArray 16 0x1677CAD08BD5B077CA78C0DFA22F8636, uuid := hexArray 16 0x6BA7B8109DAD11D180B400C04FD430C8 })
    (fun t => t.sumb) =
      some (hexArray 32 0x16C87730CAD4D04F8BC0D500B0B47780CAD17811C0ADDF9DA2102FB886A7366B) := by decide
/-- R103: the example, ROLE = 0 and ROLE = 1. -/
theorem test_kd_g0 :
    let s : State := { pendingOn 0 0 0 with key := testKey, sumb := sumHexAbc }
    after (exec .kdG0 s) (fun t => t.rkey) =
      some (hexArray 32 0x3931323231353F3F3B4A4E39384B4C3F54272B25275321532A215F2A2B5B292D) ∧
    after (exec .kdG0 { s with ctrl := ⟨true, false, false⟩ }) (fun t => t.rkey) =
      some (hexArray 32 0xC6CECDCDCECAC0C0C4B5B1C6C7B4B3C0ABD8D4DAD8ACDEACD5DEA0D5D4A4D6D2) := by decide
/-- R104: the example, ROLE = 0 and ROLE = 1. -/
theorem test_kd_g1 :
    let s : State := { pendingOn 0 0 0 with key := testKey, sumb := sumHexAbc }
    after (exec .kdG1 s) (fun t => t.rkey) =
      some (hexArray 32 0x39B070D5159059DC239414DFDD9732C04CBE71FE1B8FC5ACCCC282CDCF87CDCB) ∧
    after (exec .kdG1 { s with ctrl := ⟨true, false, false⟩ }) (fun t => t.rkey) =
      some (hexArray 32 0xC64F8F2AEA6FA623DC6BEB202268CD3FB3418E01E4703A53333D7D3230783234) := by decide
/-- R105 to R108: the examples. -/
theorem test_iv_mask :
    let s : State := { pendingOn 0 0 0 with iv := testIv, sum := sumAbc }
    after (exec .ivMaskG0 s) (fun t => t.ivenc) = some (hexArray 16 0x9000529B38D749B7DE9F357624EC717D) ∧
    after (exec .ivMaskG1 s) (fun t => t.ivenc) = some (hexArray 16 0x6FFFAD64C728B6482160CA89DB138E82) := by
  decide
theorem test_iv_unmask :
    let s : State := { pendingOn 0 0 0 with sum := sumAbc }
    after (exec .ivUnmaskG0 { s with ivenc := hexArray 16 0x9000529B38D749B7DE9F357624EC717D }) (fun t => t.iv) =
      some testIv ∧
    after (exec .ivUnmaskG1 { s with ivenc := hexArray 16 0x6FFFAD64C728B6482160CA89DB138E82 }) (fun t => t.iv) =
      some testIv := by decide

/-! ### AES (45_aes_cbc_pkcs7.md; 95_test_vectors.md 3.6) -/

/-- R114: `w[8]` and `w[59]` for the key 00 01 .. 1F. -/
theorem test_key_schedule : keyWordAt (expandKey testKey) 8 = hexArray 4 0xA573C29F ∧
    keyWordAt (expandKey testKey) 59 = hexArray 4 0x6D68DE36 := by decide
/-- FIPS-197 C.3 through AES_CBC_ENC (R124), and the padded "hello" of R119. -/
theorem test_aes_cbc_enc :
    after (exec (.aesCbcEnc false) { pendingWith 0 (hexBytes 16 0x00112233445566778899AABBCCDDEEFF) 0 0x40 16 with
        rkey := testKey }) (fun t => (t.buf.readBytes 0x40 16, t.outlen, t.statusWord)) =
      some (hexBytes 16 0x8EA2B7CA516745BFEAFC49904B496089, 16, 2) ∧
    after (exec (.aesCbcEnc true) { pendingWith 0 (hexBytes 5 0x68656C6C6F) 0 0x100 5 with
        rkey := testKey, iv := testIv }) (fun t => (t.buf.readBytes 0x100 16, t.outlen)) =
      some (hexBytes 16 0x7FD12DAFB7E9599D0B849AD8C2E3C21F, 16) := by decide +kernel
/-- 3.6: the checks. (4080, 4080, 16) with PAD does not fit; 15 bytes without PAD; the empty string without PAD. -/
theorem test_aes_cbc_enc_checks :
    after (exec (.aesCbcEnc true) (pendingOn 4080 4080 16)) (fun t => (t.statusWord, t.outlen)) = some (0x206, 0) ∧
    after (exec (.aesCbcEnc false) (pendingOn 0 0x100 15)) (fun t => (t.statusWord, t.outlen)) = some (0x306, 0) ∧
    after (exec (.aesCbcEnc false) (pendingOn 0 0 0)) (fun t => (t.statusWord, t.buf)) =
      some (0x002, Memory.powerOn) := by decide
/-- R120: the example; and 3.6: LEN = 17 is a length error although the source is out of bounds too. -/
theorem test_aes_cbc_dec :
    after (exec (.aesCbcDec true) { pendingWith 0x100 (hexBytes 16 0x7FD12DAFB7E9599D0B849AD8C2E3C21F) 0x100 0x200 16
        with rkey := testKey, iv := testIv }) (fun t => (t.buf.readBytes 0x200 16, t.outlen, t.statusWord)) =
      some (hexBytes 16 0x68656C6C6F0B0B0B0B0B0B0B0B0B0B0B, 5, 2) ∧
    after (exec (.aesCbcDec true) (pendingOn 0xFF8 0x100 17)) (fun t => (t.statusWord, t.outlen)) = some (0x306, 0) ∧
    after (exec (.aesCbcDec false) (pendingOn 4081 0 16)) (fun t => (t.statusWord, t.outlen)) = some (0x206, 0) := by
  decide +kernel
/-- 3.6: a final byte 0x00 is accepted; 0x11 is not, and the destination is zeroed. -/
theorem test_aes_cbc_dec_padding :
    let s (c : Nat) : State := { pendingWith 0 (hexBytes 16 c) 0 0x20 16 with rkey := testKey, iv := testIv }
    after (exec (.aesCbcDec true) (s 0x06C6B513AC27500CBA34F1365AD59259)) (fun t => (t.statusWord, t.outlen)) =
      some (0x002, 16) ∧
    after (exec (.aesCbcDec true) (s 0x3ED3C1C4EF8F80A48786FD20069B0D1C))
      (fun t => (t.statusWord, t.outlen, t.buf.readBytes 0x20 16)) =
      some (0x406, 0, List.replicate 16 0) := by decide +kernel

/-! ### Witnesses: for each statement with hypotheses, a state and operands that meet all of them together; where a
statement has clauses, one for each, at the ends of its range -/

theorem wit_DecodeInvertsEncode : Instr.wf (.aesCbcDec true) = true ∧ Instr.wf .nop = true := by decide
theorem wit_StepRunsDecodedCommand :
    let s := latched 0x141
    s.presetn = true ∧ s.pend = some ⟨0x141, 0, 0, 0⟩ ∧ decode 0x141 = .ok (.aesCbcDec true) ∧ s.schedule = [] ∧
    ({ s with schedule := [.engine] } : State).schedule = .engine :: [] := by decide
theorem wit_FetchedTableWordRunsNext : decodeTableWord 32 0x223 = some (.md5Final .sum) := by decide
theorem wit_IllegalWordChangesOnlyStatus :
    let s : State := { latched 0x400 with schedule := [.engine] }
    s.presetn = true ∧ s.pend = some ⟨0x400, 0, 0, 0⟩ ∧ (cmd32OfWord 0x400).wf = false ∧
    s.schedule = .engine :: [] ∧ s.wbusy = false ∧ (latched 0x42).schedule = [] ∧
    (cmd32OfWord 0x42).wf = false := by decide
theorem wit_IdleEngineHasNoStep : State.reset.pend = none ∧ State.reset.schedule = [] ∧
    ({ State.reset with schedule := [.engine] } : State).schedule = .engine :: [] := by decide
theorem wit_CmdWriteIssuesOrIsDropped : State.reset.presetn = true ∧ State.reset.busy = false ∧
    (latched 0).presetn = true ∧ (latched 0).busy = true := by decide
/-- The ends of the window, and CTRL without bit 31. -/
theorem wit_BusyDropsWrites :
    (latched 0).presetn = true ∧ (latched 0).busy = true ∧
    (latched 0).busError (.write 0x1FFC 1 0 0) = false ∧ (latched 0).busError (.write 0x000 1 0 0) = false ∧
    (latched 0).busError (.write 0x004 7 0xF 0) = false ∧ (0x004 : Addr) ≠ 0x008 ∧
    ¬IsSoftReset (.write 0x004 7 0xF 0) := by
  refine ⟨by decide, by decide, by decide, by decide, by decide, by decide, ?_⟩
  rintro ⟨d, prot, h, hd⟩
  cases h
  exact absurd hd (by decide)
theorem wit_StatusWriteAcknowledges : State.reset.presetn = true := rfl
/-- The last aligned and the first misaligned address; CTRL and XLAT with and without all strobes; RAZ/WI space with none. -/
theorem wit_BusErrorsAreExactAndHarmless : State.reset.presetn = true ∧ (0x1FFC : Addr).toNat % 4 = 0 ∧
    (0x1FFD : Addr).toNat % 4 ≠ 0 ∧
    ((0x030 : Addr) ∈ [(0x004 : Addr), 0x008, 0x00C, 0x030] ∧ (0x7 : BitVec 4) ≠ 0xF) ∧
    ¬((0x010 : Addr).toNat % 4 ≠ 0 ∨
      ((0x010 : Addr) ∈ [(0x004 : Addr), 0x008, 0x00C, 0x030] ∧ (0 : BitVec 4) ≠ 0xF)) := by decide
/-- While BUSY = 1: the first and last words the engine owns, and their neighbours that it does not own. -/
theorem wit_ReadsReturnContentsOrDraws :
    let s := latched 0
    let owned (a : Addr) : Prop := a = 0x01C ∨ a = 0x020 ∨ (0x040 ≤ a.toNat ∧ a.toNat < 0x100) ∨
      (0x1000 ≤ a.toNat ∧ a.toNat < 0x1000 + s.buf.size)
    s.presetn = true ∧ s.busy = true ∧ owned 0x01C ∧ owned 0x020 ∧ owned 0x040 ∧ owned 0x0FC ∧ owned 0x1000 ∧
    owned 0x1FFC ∧ ¬owned 0x03C ∧ ¬owned 0x100 ∧ ¬owned 0x018 ∧ ¬owned 0xFFC := by decide
/-- The first and last words of BUF, and the first word past the smallest BUF. -/
theorem wit_BufferWindowWords :
    let small : State := { State.reset with buf := ⟨16, []⟩ }
    State.reset.presetn = true ∧ State.reset.busy = false ∧ State.reset.buf.wf = true ∧
    (0 % 4 = 0 ∧ 0 < 0x1000 ∧ 0 < State.reset.buf.size) ∧
    (0xFFC % 4 = 0 ∧ 0xFFC < 0x1000 ∧ 0xFFC < State.reset.buf.size) ∧
    small.presetn = true ∧ small.busy = false ∧ small.buf.wf = true ∧ 12 < small.buf.size ∧ small.buf.size ≤ 16 ∧
    16 < 0x1000 := by decide
theorem wit_ByteArrayWords : State.reset.presetn = true ∧ State.reset.busy = false ∧ 7 < arrayBytes .key / 4 ∧
    3 < arrayBytes .digest / 4 ∧ ArrayReg.key ≠ .digest := by decide
theorem wit_WritesLeaveOtherWords :
    State.reset.presetn = true ∧ State.reset.busy = false ∧ State.reset.busError (.write 0x1FFC 1 0x8 0) = false ∧
    (0x1FFC : Addr) ≠ 0x008 ∧ (0x1FFC : Addr) ≠ 0x00C ∧ (0x1FF8 : Addr).toNat % 4 = 0 ∧ (0x1FF8 : Addr) ≠ 0x1FFC ∧
    ¬IsSoftReset (.write 0x1FFC 1 0x8 0) := by
  refine ⟨by decide, by decide, by decide, by decide, by decide, by decide, by decide, ?_⟩
  rintro ⟨d, prot, h, -⟩
  exact absurd (Transfer.write.inj h).1 (by decide)
theorem wit_WrittenRegisterReadsBack : State.reset.presetn = true ∧ State.reset.busy = false ∧
    (0x024 : Addr) ∈ [(0x010 : Addr), 0x014, 0x018, 0x024] ∧ (7 : Word)[31] = false := by decide
theorem wit_XlatLooksUpTables : State.reset.presetn = true ∧ State.reset.busy = false ∧
    (latched 0).presetn = true ∧ (latched 0).busy = true ∧ (0xE : BitVec 4) ≠ 0xF := by decide
/-- The ends of each reserved range, and the read-only registers. -/
theorem wit_ReservedAndReadOnlyOffsets :
    let raz (a : Addr) : Prop := (0x034 ≤ a.toNat ∧ a.toNat < 0x040) ∨ (0x100 ≤ a.toNat ∧ a.toNat < 0x1000)
    raz 0x034 ∧ raz 0x03C ∧ raz 0x100 ∧ raz 0xFFC ∧ (0x0B0 ≤ (0x0BC : Addr).toNat ∧ (0x0BC : Addr).toNat < 0x0C0) ∧
    State.reset.presetn = true ∧ State.reset.busy = false := by decide
theorem wit_IrqIsLevelOfDone : State.reset.presetn = true ∧ State.reset.busy = false ∧ (2 : Word)[1] = true ∧
    (4 : Word)[31] = false ∧ (0x80000000 : Word)[31] = true := by decide
theorem wit_StatusAtCompletion : (latched 0x42).wbusy = false := rfl
/-- A soft reset with a command pending, PRESETn driven low, and PRESETn rising. -/
theorem wit_ResetsReachResetTable :
    let low : State := { State.reset with presetn := false }
    ((latched 0).presetn = true ∧ (0x80000007 : Word)[31] = true) ∧ State.reset.pend = none ∧ low.presetn = false ∧
    (0x000 : Addr).toNat % 4 = 0 ∧ (0xFFC : Addr).toNat % 4 = 0 ∧ (0xFFC : Addr).toNat < 0x1000 := by decide
/-- The three aborts with an AES word pending, destination regions that end at the end of BUF and one byte past it, and a
word that writes no byte of BUF. -/
theorem wit_AbortLeavesOtherBytes :
    let low : State := { latched 0x140 with presetn := false }
    (0x80000000 : Word)[31] = true ∧ (latched 0x140).presetn = true ∧ (latched 0x140).pend = some ⟨0x140, 0, 0, 0⟩ ∧
    low.presetn = false ∧ low.pend = some ⟨0x140, 0, 0, 0⟩ ∧ (latched 0).buf.size = 4096 ∧
    encode (.aesCbcEnc true) = 0x140 ∧ 4080 + 16 ≤ 4096 ∧ 4064 + encOutLen true 16 = 4096 ∧
    ¬(4065 + encOutLen true 16 ≤ 4096) ∧ 16 % 16 = 0 ∧ 4080 + encOutLen false 16 = 4096 ∧
    encode (.aesCbcDec true) = 0x141 ∧ 4080 + 16 ≤ 4096 ∧ ¬(4081 + 16 ≤ 4096) ∧
    ∀ pad, (0x23 : Word) ≠ encode (.aesCbcEnc pad) ∧ (0x23 : Word) ≠ encode (.aesCbcDec pad) := by decide
/-- PRESETn low; a misaligned address, a CTRL write without all strobes, and offsets that answer no error. -/
theorem wit_TransfersInResetAreIgnored :
    ({ State.reset with presetn := false } : State).presetn = false ∧ (0x1FFD : Addr).toNat % 4 ≠ 0 ∧
    (0x004 : Addr) ∈ [(0x004 : Addr), 0x008, 0x00C, 0x030] ∧ (0x7 : BitVec 4) ≠ 0xF ∧
    (0x010 : Addr) ∉ [(0x004 : Addr), 0x008, 0x00C, 0x030] ∧ (0x1FFC : Addr).toNat % 4 = 0 := by decide
theorem wit_NopOnlyCompletes :
    let s := latched 0x400
    s.presetn = true ∧ s.schedule = [] ∧ s.pend = some ⟨0x400, 0, 0, 0⟩ ∧ (0x400 : Word).extractLsb' 0 8 = 0 ∧
    (0x400 : Word) ≠ 0 ∧ s.busy = true := by decide
/-- The empty region at the end of BUF, and the last sixteen bytes. -/
theorem wit_ChecksumResults :
    (pendingOn 4096 0 0).pend = some ⟨0, 4096, 0, 0⟩ ∧
    (⟨0, 4096, 0, 0⟩ : Pending).srcOff + (⟨0, 4096, 0, 0⟩ : Pending).length ≤ (pendingOn 4096 0 0).buf.size ∧
    (⟨0, 4080, 0, 16⟩ : Pending).srcOff + (⟨0, 4080, 0, 16⟩ : Pending).length ≤ (pendingOn 4080 0 16).buf.size := by
  decide
/-- One byte too far, and a sum past 2^32. -/
theorem wit_SourceOutOfBoundsChangesOnlyStatus :
    (pendingOn 4081 0 16).pend = some ⟨0, 4081, 0, 16⟩ ∧
    (pendingOn 4081 0 16).buf.size < (4081 : Word).toNat + (16 : Word).toNat ∧
    (pendingOn 0xFFFFFFF0 0 0x20).buf.size < (0xFFFFFFF0 : Word).toNat + (0x20 : Word).toNat ∧
    Instr.md5Update ∈ [Instr.crc8Buf, .lrcBuf, .md5Update] := by decide
theorem wit_GchkIvencResult : (pendingOn 0 0 0).pend = some ⟨0, 0, 0, 0⟩ := rfl
/-- The CRC of the reset IVENC is 0: equal to the reset CHKREF, and different from CHKREF.CRC = 0xFF. -/
theorem wit_VerifyG0Outcome :
    let s := pendingOn 0 0 0
    let u : State := { s with chkref := ⟨0xFF, 0, 0, 0⟩ }
    s.pend = some ⟨0, 0, 0, 0⟩ ∧ crc8 s.crccfg s.ivenc.toList = s.chkref.crc ∧
    u.pend = some ⟨0, 0, 0, 0⟩ ∧ crc8 u.crccfg u.ivenc.toList ≠ u.chkref.crc := by decide +kernel
theorem wit_VerifyG1Outcome :
    let s := pendingOn 0 0 0
    let u : State := { s with chkref := ⟨0, 0, 1, 0⟩ }
    s.pend = some ⟨0, 0, 0, 0⟩ ∧ (gcheck s.ivenc s.g1cfg.gprev0).1 = s.chkref.g1 ∧
    (gcheck s.ivenc s.g1cfg.gprev0).2 = s.chkref.g2 ∧ lrc s.ivenc.toList = s.chkref.lrc ∧
    u.pend = some ⟨0, 0, 0, 0⟩ ∧ lrc u.ivenc.toList ≠ u.chkref.lrc := by decide
/-- The last three bytes of BUF; the empty region and the legal initial context. -/
theorem wit_Md5ContextCommands :
    (pendingOn 4093 0 3).pend = some ⟨0, 4093, 0, 3⟩ ∧ 4093 + 3 ≤ (pendingOn 4093 0 3).buf.size ∧
    (pendingOn 0 0 0).pend = some ⟨0, 0, 0, 0⟩ ∧ (⟨0, 0, 0, 0⟩ : Pending).length = 0 ∧
    (pendingOn 0 0 0).md5.part.length < 64 ∧
    (pendingOn 0 0 0).md5.part.length = (pendingOn 0 0 0).md5.nbytes.toNat % 64 := by decide
theorem wit_Md5FinalResult : (pendingOn 0 0 0).pend = some ⟨0, 0, 0, 0⟩ := rfl
/-- Equal arrays, and arrays that differ in their last byte only. -/
theorem wit_CmpDigestOutcome :
    let s := pendingOn 0 0 0
    let u : State := { s with ref := hexArray 16 1 }
    s.pend = some ⟨0, 0, 0, 0⟩ ∧ (∀ i (h : i < 16), s.digest[i] = s.ref[i]) ∧
    u.pend = some ⟨0, 0, 0, 0⟩ ∧ u.digest[15] ≠ u.ref[15] := by decide
theorem wit_MaskMaterialResults : (pendingOn 0 0 0).pend = some ⟨0, 0, 0, 0⟩ := rfl
/-- Both parities of a SUMB byte. -/
theorem wit_KeyDerivationResults : (pendingOn 0 0 0).pend = some ⟨0, 0, 0, 0⟩ ∧
    parity8 sumHexAbc[3] = true ∧ parity8 sumHexAbc[0] = false := by decide
theorem wit_IvMaskResults : (pendingOn 0 0 0).pend = some ⟨0, 0, 0, 0⟩ := rfl
/-- With PAD the last region that fits; without PAD the empty one at the end of BUF. -/
theorem wit_AesCbcEncResult :
    (pendingOn 4080 4064 16).pend = some ⟨0, 4080, 4064, 16⟩ ∧ 4080 + 16 ≤ (pendingOn 4080 4064 16).buf.size ∧
    4064 + encOutLen true 16 ≤ (pendingOn 4080 4064 16).buf.size ∧ (pendingOn 4080 4064 16).buf.size ≤ 4096 ∧
    0 % 16 = 0 ∧ 4096 + encOutLen false 0 ≤ (pendingOn 4096 4096 0).buf.size := by decide
/-- A source that unpads, one that does not, and the last region that fits. -/
theorem wit_AesCbcDecResult :
    let s (c : Nat) : State := { pendingWith 4080 (hexBytes 16 c) 4080 4080 16 with rkey := testKey, iv := testIv }
    let good := 0x7FD12DAFB7E9599D0B849AD8C2E3C21F
    let bad := 0x3ED3C1C4EF8F80A48786FD20069B0D1C
    (s good).pend = some ⟨0, 4080, 4080, 16⟩ ∧ 16 ≠ 0 ∧ 16 % 16 = 0 ∧ 4080 + 16 ≤ (s good).buf.size ∧
    (s good).buf.size ≤ 4096 ∧
    unpad (cbcDec (s good).rkey (s good).iv ((s good).buf.readBytes 4080 16)) = some 11 ∧
    unpad (cbcDec (s bad).rkey (s bad).iv ((s bad).buf.readBytes 4080 16)) = none := by decide +kernel
/-- A length that is no multiple of 16; the lengths 0 and 17; a destination one byte too far; a source too far. -/
theorem wit_AesChecksInOrder :
    (pendingOn 0 0 15).pend = some ⟨0, 0, 0, 15⟩ ∧ 15 % 16 ≠ 0 ∧
    (pendingOn 0 0 0).pend = some ⟨0, 0, 0, 0⟩ ∧ (17 % 16 ≠ 0) ∧
    (pendingOn 4080 4065 16).pend = some ⟨0, 4080, 4065, 16⟩ ∧
    (pendingOn 4080 4065 16).buf.size < 4065 + encOutLen true 16 ∧
    (pendingOn 4081 0 16).pend = some ⟨0, 4081, 0, 16⟩ ∧ (pendingOn 4081 0 16).buf.size < 4081 + 16 := by decide
/-- The reset state is legal and steps to itself; a legal state with a command pending. -/
theorem wit_StepKeepsLegalStates :
    let s := latched 0x141
    (s.buf.wf = true ∧ s.md5.part.length = 0 ∧ s.md5.nbytes = 0 ∧ s.done = false ∧ s.err = none ∧
      s.pend = some ⟨s.cmd, s.src, s.dst, s.len⟩ ∧ s.presetn = true) ∧
    after (step s) (fun t => t.pend) = some none := by decide
theorem wit_CommandsWriteOnlyTheirOutputs :
    after (exec .crc8Ivenc (pendingOn 0 0 0)) State.done = some true := by decide
/-- Each error a command can end with. -/
theorem wit_ErrorsArePrecise :
    after (exec .lrcBuf (pendingOn 4081 0 16)) State.err = some (some .bounds) ∧
    after (exec (.aesCbcEnc false) (pendingOn 0 0 15)) State.err = some (some .cipherLenWrong) ∧
    after (exec .verifyG0 { pendingOn 0 0 0 with chkref := ⟨0xFF, 0, 0, 0⟩ }) State.err =
      some (some .ivCheckError) ∧
    after (exec .cmpDigest { pendingOn 0 0 0 with ref := hexArray 16 1 }) State.err = some (some .checksumWrong) ∧
    after (exec (.aesCbcDec true) { pendingWith 0 (hexBytes 16 0x3ED3C1C4EF8F80A48786FD20069B0D1C) 0 0 16 with
      rkey := testKey, iv := testIv }) State.err = some (some .paddingWrong) := by decide +kernel
theorem wit_OutlenIsOfAesCommands :
    after (exec (.aesCbcDec true) (pendingOn 0 0 17)) (fun t => (t.err.isSome, t.outlen)) = some (true, 0) ∧
    isAes (.aesCbcDec true) = true ∧ isAes .nop = false := by decide
/-- A dropped write and a read of STATUS before the engine's turn. -/
theorem wit_LatencyIsInvisible :
    let xs := [wr 0x010 1, rd 0x008]
    let s : State := { latched 0 with schedule := xs.map Turn.bus ++ .engine :: [] }
    s.presetn = true ∧ s.pend = some ⟨0, 0, 0, 0⟩ ∧ s.schedule = xs.map Turn.bus ++ .engine :: [] ∧
    ∀ x ∈ xs, ¬IsSoftReset x := by
  refine ⟨by decide, by decide, by decide, ?_⟩
  intro x hx
  simp only [List.mem_cons, List.not_mem_nil, or_false] at hx
  rcases hx with rfl | rfl <;> rintro ⟨d, prot, h, -⟩
  · exact absurd (Transfer.write.inj h).1 (by decide)
  · cases h
theorem wit_PendingCommandEnds :
    let s : State := { latched 0x42 with schedule := [.bus (rd 0x008), .bus (wr 0x010 1)] }
    s.presetn = true ∧ s.busy = true := by decide
theorem wit_Crc8IsAffine : [(1 : Byte), 2].length = [(3 : Byte), 4].length := rfl
/-- The last byte, changed in one bit. -/
theorem wit_VerifyG0CatchesByteChange :
    let s := pendingOn 0 0 0
    s.crccfg.poly[0] = true ∧ after (exec .verifyG0 s) State.err = some none ∧ 15 < 16 ∧ (0x80 : Byte) ≠ 0 := by
  decide +kernel
theorem wit_VerifyG1CatchesByteChange :
    after (exec .verifyG1 (pendingOn 0 0 0)) State.err = some none ∧ 15 < 16 ∧ (0x80 : Byte) ≠ 0 := by decide
theorem wit_Md5AbsorbSplits : (Md5Context.init.absorb (List.replicate 63 0)).part.length < 64 := by decide
/-- Whole blocks, the empty string, and one block that ends in 0, in 0x10 and in 0x11. -/
theorem wit_CbcAndPaddingInvert :
    let y (v : Byte) : List Byte := List.replicate 15 7 ++ [v]
    (List.replicate 32 (0 : Byte)).length % 16 = 0 ∧ ([] : List Byte).length % 16 = 0 ∧
    (y 0).length ≠ 0 ∧ (y 0).length % 16 = 0 ∧ (y 0).getLast? = some 0 ∧ unpad (y 0x10) = none ∧
    unpad (List.replicate 16 0x10) = some 16 ∧ (y 0x11).getLast? = some 0x11 ∧ 16 < (0x11 : Byte).toNat := by decide
theorem wit_EncryptThenDecryptRestores :
    (pendingOn 4080 4064 16).pend = some ⟨0, 4080, 4064, 16⟩ ∧ (pendingOn 4080 4064 16).buf.size ≤ 4096 ∧
    4080 + 16 ≤ (pendingOn 4080 4064 16).buf.size ∧ 4064 + encOutLen true 16 ≤ (pendingOn 4080 4064 16).buf.size ∧
    (4064 : Word).toNat + encOutLen true 16 ≤ (pendingOn 4080 4064 16).buf.size := by decide
/-- Masking and unmasking run, KD_G1 runs under the reset G1CFG, and two keys give two RKEYs. -/
theorem wit_DerivationInversesAndSymmetry :
    after (exec .ivMaskG1 (pendingOn 0 0 0)) State.done = some true ∧
    after (exec .ivUnmaskG1 { pendingOn 0 0 0 with iv := testIv }) State.done = some true ∧
    (pendingOn 0 0 0).g1cfg = G1Cfg.reset ∧ after (exec .kdG1 (pendingOn 0 0 0)) State.done = some true ∧
    after (exec .kdG1 { pendingOn 0 0 0 with key := testKey }) (fun t => t.rkey) ≠
      after (exec .kdG1 (pendingOn 0 0 0)) (fun t => t.rkey) := by decide

end Sys2Proof.Machine
end

/-! SUPPORT. The proofs of the family `10_state.md`: every step keeps legal states, OUTLEN belongs to the AES commands,
the words of the register map, the reserved and read-only offsets, and the reset table. -/

namespace Sys2Proof.Machine

/-! ### What a command leaves in BUF, OUTLEN and M -/

/-- `m'` is a context that some command can leave where `m` stood (R93 to R96). -/
def Md5Context.Reaches (m m' : Md5Context) : Prop :=
  m' = m ∨ m' = Md5Context.init ∨ ∃ data, m' = m.absorb data

/-- What every command but the AES commands leaves of the state: BUF, OUTLEN and PRESETn as they were, M moved on
by one of the context operations. -/
structure KeepsBuffer (s t : State) : Prop where
  buf : t.buf = s.buf
  outlen : t.outlen = s.outlen
  md5 : s.md5.Reaches t.md5
  presetn : t.presetn = s.presetn

/-- What an AES command leaves of the state (R119, R120): M and PRESETn as they were, and BUF as it was or with a
byte string written inside it. -/
structure WritesRegion (s t : State) : Prop where
  buf : t.buf = s.buf ∨ ∃ off x, off + x.length ≤ s.buf.size ∧ t.buf = s.buf.writeBytes off x
  md5 : t.md5 = s.md5
  presetn : t.presetn = s.presetn

/-- What a command's run has, its completion has too, where completing keeps it. -/
theorem withCommand_next_of {s t : State} {run : Pending → State × Option ErrCode} {P : State → Prop}
    (h : withCommand s run = .next t) (hrun : ∀ p, P ((run p).1.complete (run p).2)) : P t := by
  obtain ⟨p, -, rfl⟩ := withCommand_next s t run h
  exact hrun p

/-- What holds of the BOUNDS outcome and of every run on bytes holds of a command with a source region (R63). -/
theorem withSource_of {s : State} {p : Pending} {run : List Byte → State × Option ErrCode}
    {P : State × Option ErrCode → Prop} (hbounds : P (s, some .bounds)) (hrun : ∀ data, P (run data)) :
    P (withSource s p run) := by
  unfold withSource
  split_ifs
  · exact hrun _
  · exact hbounds

/-- A completed command has freed the latch and set DONE (R61). -/
theorem exec_next_completed (i : Instr) (s t : State) (h : exec i s = .next t) : t.pend = none ∧ t.done = true := by
  cases i <;> exact withCommand_next_of (P := fun t => t.pend = none ∧ t.done = true) h fun _ => ⟨rfl, rfl⟩

/-- A command that is no AES command writes neither BUF nor OUTLEN (R52). -/
theorem exec_next_of_not_aes (i : Instr) (s t : State) (hi : isAes i = false) (h : exec i s = .next t) :
    KeepsBuffer s t := by
  cases i with
  | aesCbcEnc | aesCbcDec => cases hi
  | crc8Buf | lrcBuf =>
    exact withCommand_next_of h fun p => withSource_of (P := fun r => KeepsBuffer s (r.1.complete r.2))
      ⟨rfl, rfl, .inl rfl, rfl⟩ fun data => ⟨rfl, rfl, .inl rfl, rfl⟩
  | md5Update =>
    exact withCommand_next_of h fun p => withSource_of (P := fun r => KeepsBuffer s (r.1.complete r.2))
      ⟨rfl, rfl, .inl rfl, rfl⟩ fun data => ⟨rfl, rfl, .inr (.inr ⟨data, rfl⟩), rfl⟩
  | md5UpdateSumb => exact withCommand_next_of h fun p => ⟨rfl, rfl, .inr (.inr ⟨_, rfl⟩), rfl⟩
  | md5Init => exact withCommand_next_of h fun p => ⟨rfl, rfl, .inr (.inl rfl), rfl⟩
  | md5Final dest =>
    refine withCommand_next_of h fun p => ⟨?_, ?_, .inr (.inl ?_), ?_⟩ <;> cases dest <;> simp
  | _ => refine withCommand_next_of h fun p => ⟨?_, ?_, .inl ?_, ?_⟩ <;> simp [State.withGcheck]

/-! ### The byte strings the AES commands write -/

@[simp] theorem blocksOf_length (n : Nat) (x : List Byte) : (blocksOf n x).length = n := by
  induction n generalizing x with
  | zero => rfl
  | succ n ih => simp [blocksOf, ih]

@[simp] theorem cbcEncBlocks_length (key : Vector Byte 32) (prev : Block) (bs : List Block) :
    (cbcEncBlocks key prev bs).length = bs.length := by
  induction bs generalizing prev with
  | nil => rfl
  | cons b rest ih => simp [cbcEncBlocks, ih]

@[simp] theorem cbcDecBlocks_length (key : Vector Byte 32) (prev : Block) (bs : List Block) :
    (cbcDecBlocks key prev bs).length = bs.length := by
  induction bs generalizing prev with
  | nil => rfl
  | cons b rest ih => simp [cbcDecBlocks, ih]

@[simp] theorem bytesOfBlocks_length (bs : List Block) : (bytesOfBlocks bs).length = 16 * bs.length := by
  induction bs with
  | nil => rfl
  | cons b rest ih =>
    simp only [bytesOfBlocks, List.flatMap_cons, List.length_append, Vector.length_toList, List.length_cons] at ih ⊢
    omega

/-- CBC encryption keeps the number of whole blocks (R117). -/
@[simp] theorem cbcEnc_length (key : Vector Byte 32) (iv : Block) (x : List Byte) :
    (cbcEnc key iv x).length = 16 * (x.length / 16) := by simp [cbcEnc]

/-- CBC decryption keeps the number of whole blocks (R117). -/
@[simp] theorem cbcDec_length (key : Vector Byte 32) (iv : Block) (y : List Byte) :
    (cbcDec key iv y).length = 16 * (y.length / 16) := by simp [cbcDec]

@[simp] theorem padBytes_length (x : List Byte) : (padBytes x).length = x.length + (16 - x.length % 16) := by
  simp [padBytes]

/-- What AES_CBC_ENC writes is as long as the region it checked (R119). -/
theorem cbcEnc_padded_length (key : Vector Byte 32) (iv : Block) (pad : Bool) (x : List Byte)
    (h : pad = true ∨ x.length % 16 = 0) :
    (cbcEnc key iv (if pad then padBytes x else x)).length = encOutLen pad x.length := by
  cases pad
  · simp only [Bool.false_eq_true, false_or, if_false, cbcEnc_length, encOutLen] at h ⊢
    omega
  · simp only [if_true, cbcEnc_length, padBytes_length, encOutLen]
    omega

theorem exec_aesCbcEnc_next (pad : Bool) (s t : State) (h : exec (.aesCbcEnc pad) s = .next t) :
    WritesRegion s t ∧ (t.err ≠ none → t.outlen = 0) := by
  refine withCommand_next_of (P := fun t => WritesRegion s t ∧ (t.err ≠ none → t.outlen = 0)) h fun p => ?_
  dsimp only
  split
  · exact ⟨⟨.inl rfl, rfl, rfl⟩, fun _ => rfl⟩
  next hcheck =>
    obtain ⟨hlen, -, hdst⟩ := (encCheck_none_iff _ _ _).1 hcheck
    have hout := cbcEnc_padded_length s.rkey s.iv pad (s.buf.readBytes p.srcOff p.length) (by simpa using hlen)
    rw [Memory.readBytes_length] at hout
    exact ⟨⟨.inr ⟨_, _, by omega, rfl⟩, rfl, rfl⟩, fun he => absurd rfl he⟩

theorem exec_aesCbcDec_next (pad : Bool) (s t : State) (h : exec (.aesCbcDec pad) s = .next t) :
    WritesRegion s t ∧ (t.err ≠ none → t.outlen = 0) := by
  refine withCommand_next_of (P := fun t => WritesRegion s t ∧ (t.err ≠ none → t.outlen = 0)) h fun p => ?_
  dsimp only
  split
  · exact ⟨⟨.inl rfl, rfl, rfl⟩, fun _ => rfl⟩
  next hcheck =>
    obtain ⟨-, hlen, -, hdst⟩ := (decCheck_none_iff _ _).1 hcheck
    have hout : (cbcDec s.rkey s.iv (s.buf.readBytes p.srcOff p.length)).length = p.length := by
      rw [cbcDec_length, Memory.readBytes_length]; omega
    split_ifs
    · exact ⟨⟨.inr ⟨_, _, by omega, rfl⟩, rfl, rfl⟩, fun he => absurd rfl he⟩
    · split
      · exact ⟨⟨.inr ⟨_, _, by omega, rfl⟩, rfl, rfl⟩, fun he => absurd rfl he⟩
      · exact ⟨⟨.inr ⟨_, _, by rwa [List.length_replicate], rfl⟩, rfl, rfl⟩, fun _ => rfl⟩

/-- An AES command writes inside BUF, and ends in OUTLEN 0 on an error (R119, R120). -/
theorem exec_next_of_aes (i : Instr) (s t : State) (hi : isAes i = true) (h : exec i s = .next t) :
    WritesRegion s t ∧ (t.err ≠ none → t.outlen = 0) := by
  cases i with
  | aesCbcEnc pad => exact exec_aesCbcEnc_next pad s t h
  | aesCbcDec pad => exact exec_aesCbcDec_next pad s t h
  | _ => cases hi

/-- Settles O45: the AES commands end in OUTLEN 0 on an error, and no other command has it among its outputs. -/
theorem outlenIsOfAesCommands : Obligations.OutlenIsOfAesCommands := fun i s t h =>
  ⟨fun hi => (exec_next_of_not_aes i s t hi h).outlen, fun hi => (exec_next_of_aes i s t hi h).2⟩

/-! ### Legal MD5 contexts -/

theorem Md5Context.legal_init : Md5Context.init.Legal := by
  unfold Md5Context.Legal; decide

/-- `absorb` keeps PART below a block and in step with NBYTES; 64 divides 2^61, so the counter's wrap does not show. -/
theorem Md5Context.legal_absorb (m : Md5Context) (data : List Byte) (h : m.Legal) : (m.absorb data).Legal := by
  obtain ⟨-, hcount⟩ := h
  have hpart : (m.absorb data).part.length = (m.part.length + data.length) % 64 := by
    simp only [Md5Context.absorb, md5Blocks_rest, List.length_drop, List.length_append]
    omega
  have hbytes : (m.absorb data).nbytes.toNat = (m.nbytes.toNat + data.length) % 2 ^ 61 := by
    simp [Md5Context.absorb]
  refine ⟨by omega, ?_⟩
  rw [hpart, hbytes]
  omega

theorem Md5Context.legal_of_reaches (m m' : Md5Context) (h : m.Reaches m') (hm : m.Legal) : m'.Legal := by
  obtain rfl | rfl | ⟨data, rfl⟩ := h
  · exact hm
  · exact Md5Context.legal_init
  · exact m.legal_absorb data hm

/-! ### Legal states -/

/-- No command is pending while PRESETn is low, so a legal state with a pending command has it high (R160). -/
theorem State.PinLegal.presetn_of_pend {s : State} (hpin : s.PinLegal) (p : Pending) (hp : s.pend = some p) :
    s.presetn = true := by
  by_contra hlow
  have hreset := hpin (by simpa using hlow)
  rw [← hreset] at hp
  cases hp

/-- With no command pending and PRESETn high, BUF and M alone decide whether a state is legal. -/
theorem State.inv_of_idle {s : State} (hbuf : s.buf.wf = true) (hmd5 : s.md5.Legal) (hpend : s.pend = none)
    (hpin : s.presetn = true) : s.Inv := by
  refine ⟨hbuf, hmd5, fun hb => ?_, fun p hp => ?_, fun hlow => ?_⟩
  · simp [State.busy, hpend] at hb
  · simp [hpend] at hp
  · simp [hpin] at hlow

/-- The waiting turns, the recorded answer and the draw counter have no part in legality. -/
theorem State.Inv.with_bookkeeping {s : State} (h : s.Inv) (turns : List Turn) (resp : Option BusResponse) (n : Nat) :
    State.Inv { s with schedule := turns, resp := resp, draws := n } := by
  obtain ⟨hbuf, hmd5, hstatus, hlatch, hpin⟩ := h
  refine ⟨hbuf, hmd5, hstatus, hlatch, fun hlow => ?_⟩
  conv_rhs => rw [← hpin hlow]
  rfl

theorem State.inv_complete_illegal {s : State} (h : s.Inv) (p : Pending) (hp : s.pend = some p) :
    (s.complete (some .illegalCommand)).Inv := by
  obtain ⟨hbuf, hmd5, -, -, hpin⟩ := h
  exact State.inv_of_idle hbuf hmd5 rfl (hpin.presetn_of_pend p hp)

/-- Running a pending command in a legal state ends in a legal state. -/
theorem exec_preserves_inv (i : Instr) (s t : State) (p : Pending) (hs : s.Inv) (hp : s.pend = some p)
    (h : exec i s = .next t) : t.Inv := by
  obtain ⟨hbuf, hmd5, -, -, hpin⟩ := hs
  have hhigh := hpin.presetn_of_pend p hp
  have hidle := (exec_next_completed i s t h).1
  cases hi : isAes i with
  | false =>
    have hk := exec_next_of_not_aes i s t hi h
    exact State.inv_of_idle (hk.buf ▸ hbuf) (Md5Context.legal_of_reaches _ _ hk.md5 hmd5) hidle (hk.presetn ▸ hhigh)
  | true =>
    have hw := (exec_next_of_aes i s t hi h).1
    have hbuf' : t.buf.wf = true := by
      obtain hb | ⟨off, x, hin, hb⟩ := hw.buf <;> rw [hb]
      · exact hbuf
      · exact Memory.wf_writeBytes _ _ _ hbuf hin
    exact State.inv_of_idle hbuf' (hw.md5 ▸ hmd5) hidle (hw.presetn ▸ hhigh)

theorem engineTurn_preserves_inv (s t : State) (hs : s.Inv) (h : engineTurn s = .next t) : t.Inv := by
  obtain ⟨-, rfl⟩ | ⟨p, i, hp, -, hexec⟩ | ⟨p, -, hp, -, rfl⟩ := engineTurn_next_cases s t h
  · exact hs
  · exact exec_preserves_inv i s t p hs hp hexec
  · exact State.inv_complete_illegal hs p hp

/-- A reset that keeps BUF, under either level of the pin, ends in a legal state: the abort of a pending command
writes inside BUF. -/
theorem State.inv_resetKeepingBuf (s : State) (level : Bool) (hbuf : s.buf.wf = true) :
    State.Inv { s.resetKeepingBuf with presetn := level } := by
  have hbuf' : s.abort.buf.wf = true := by
    obtain h | ⟨p, off, n, -, hin, -, h⟩ := s.abort_cases <;> rw [h]
    · exact hbuf
    · exact Memory.wf_writeBytes _ _ _ hbuf (by simpa using hin)
  refine ⟨hbuf', Md5Context.legal_init, fun hb => ?_, fun p hp => ?_, fun _ => rfl⟩
  · cases hb
  · cases hp

theorem State.inv_drivePresetn {s : State} (hs : s.Inv) (level : Bool) : (s.drivePresetn level).Inv := by
  obtain ⟨-, -, h⟩ | ⟨-, h⟩ := s.drivePresetn_cases level <;> rw [h]
  · exact hs
  · obtain ⟨hbuf, -⟩ := hs
    exact s.inv_resetKeepingBuf level hbuf

/-! ### The register bus keeps legal states -/

theorem controlTarget_ne_buf (a k : Nat) : controlTarget a ≠ .buf k := by
  unfold controlTarget
  split <;> exact Target.noConfusion

/-- Only the buffer window names BUF, at the offset past 0x1000 (R12, R41). -/
theorem targetOf_eq_buf (size a k : Nat) (h : targetOf size a = .buf k) :
    0x1000 ≤ a ∧ k = a - 0x1000 ∧ k < size := by
  unfold targetOf at h
  split at h
  · exact absurd h (controlTarget_ne_buf a k)
  repeat' split at h
  all_goals simp only [reduceCtorEq, Target.buf.injEq] at h
  next hwin => exact ⟨hwin.1, h.symm, h ▸ hwin.2⟩

/-- An accepted write to another target than CMD leaves M, the latch and the pin alone. -/
theorem State.storeRegister_keeps (s : State) (t : Target) (d : Word) (strb : BitVec 4) (ht : t ≠ .cmd) :
    (s.storeRegister t d strb).md5 = s.md5 ∧ (s.storeRegister t d strb).pend = s.pend ∧
    (s.storeRegister t d strb).presetn = s.presetn := by
  cases t with
  | cmd => exact absurd rfl ht
  | array r j => cases r <;> simp [State.storeRegister, State.writeArray]
  | _ => simp [State.storeRegister]

/-- An accepted write to another target than the buffer window leaves BUF alone. -/
theorem State.storeRegister_buf (s : State) (t : Target) (d : Word) (strb : BitVec 4) (ht : ∀ k, t ≠ .buf k) :
    (s.storeRegister t d strb).buf = s.buf := by
  cases t with
  | buf k => exact absurd rfl (ht k)
  | array r j => cases r <;> simp [State.storeRegister, State.writeArray]
  | _ => simp [State.storeRegister]

/-- Issuing a command in a legal state: the flags are cleared and the latch takes what the registers hold (R60). -/
theorem State.inv_issue {s : State} (hs : s.Inv) (d : Word) (hpin : s.presetn = true) : (s.issue d).Inv := by
  obtain ⟨hbuf, hmd5, -, -, -⟩ := hs
  refine ⟨hbuf, hmd5, fun _ => ⟨rfl, rfl⟩, fun p hp => ?_, fun hlow => ?_⟩
  · simpa using hp.symm
  · simp [hpin] at hlow

/-- A word of the window lies in BUF whole, because BUF_SIZE is a multiple of 4 (R7, R41). -/
theorem Memory.wf_writeLanes_window (m : Memory) (a : Addr) (k : Nat) (d : Word) (strb : BitVec 4)
    (hm : m.wf = true) (ha : misaligned a = false) (ht : targetOf m.size a.toNat = .buf k) :
    (m.writeLanes k d strb).wf = true := by
  have hwin := targetOf_eq_buf _ _ _ ht
  have hsize := ((Memory.wf_iff _).1 hm).1
  have halign : a.toNat % 4 = 0 := by simpa [misaligned] using ha
  exact Memory.wf_writeLanes _ _ _ _ hm (by omega)

theorem State.inv_storeRegister {s : State} (hs : s.Inv) (a : Addr) (d : Word) (strb : BitVec 4)
    (ha : misaligned a = false) (hpend : s.pend = none) (hpin : s.presetn = true) :
    (s.storeRegister (s.target a) d strb).Inv := by
  by_cases hcmd : s.target a = .cmd
  · rw [hcmd]
    exact State.inv_issue hs d hpin
  obtain ⟨hbuf, hmd5, -⟩ := hs
  obtain ⟨kmd5, kpend, kpin⟩ := s.storeRegister_keeps (s.target a) d strb hcmd
  have hbuf' : (s.storeRegister (s.target a) d strb).buf.wf = true := by
    by_cases hwin : ∃ k, s.target a = .buf k
    · obtain ⟨k, hk⟩ := hwin
      rw [hk]
      exact Memory.wf_writeLanes_window _ a k d strb hbuf ha hk
    · rw [s.storeRegister_buf _ d strb (not_exists.1 hwin)]
      exact hbuf
  exact State.inv_of_idle hbuf' (kmd5 ▸ hmd5) (kpend.trans hpend) (kpin.trans hpin)

theorem State.inv_acknowledge {s : State} (hs : s.Inv) (d : Word) (hpin : s.presetn = true) :
    (s.acknowledge d).Inv := by
  obtain ⟨hbuf, hmd5, hstatus, hlatch, -⟩ := hs
  refine ⟨hbuf, hmd5, fun hb => ?_, hlatch, fun hlow => ?_⟩
  · obtain ⟨hdone, herr⟩ := hstatus hb
    simp [hdone, herr]
  · exact absurd hlow (by simp [hpin])

theorem State.inv_writeTransfer {s : State} (hs : s.Inv) (a : Addr) (d : Word) (strb : BitVec 4)
    (hpin : s.presetn = true) : (s.writeTransfer a d strb).Inv := by
  obtain ⟨-, h⟩ | ⟨-, -, h⟩ | ⟨-, h⟩ | ⟨-, h⟩ | ⟨hpend, ha, h⟩ := s.writeTransfer_cases a d strb <;> rw [h]
  · exact hs
  · obtain ⟨hbuf, -⟩ := hs
    exact s.inv_resetKeepingBuf s.resetKeepingBuf.presetn hbuf
  · exact State.inv_acknowledge hs d hpin
  · obtain ⟨hbuf, hmd5, hstatus, hlatch, -⟩ := hs
    exact ⟨hbuf, hmd5, hstatus, hlatch, fun hlow => absurd hlow (by simp [hpin])⟩
  · exact State.inv_storeRegister hs a d strb ha hpend hpin

theorem State.inv_transfer {s : State} (hs : s.Inv) (x : Transfer) : (s.transfer x).Inv := by
  obtain ⟨-, h⟩ | ⟨hpin, a, d, strb, prot, -, h⟩ | ⟨-, a, prot, -, h⟩ := s.transfer_cases x <;> rw [h]
  · cases x <;> exact hs.with_bookkeeping _ _ _
  · exact (State.inv_writeTransfer hs a d strb hpin).with_bookkeeping _ _ _
  · obtain h | h := s.readTransfer_state a <;> rw [h] <;> exact hs.with_bookkeeping _ _ _

/-- Settles O40, by the turn taken: the engine's, a transfer's, or a change of PRESETn. -/
theorem stepKeepsLegalStates : Obligations.StepKeepsLegalStates := by
  intro s t hs h
  have htaken (rest : List Turn) : State.Inv { s with schedule := rest } := hs.with_bookkeeping _ _ _
  obtain ⟨-, he⟩ | ⟨rest, -, he⟩ | ⟨x, rest, -, rfl⟩ | ⟨level, rest, -, rfl⟩ := step_next_cases s t h
  · exact engineTurn_preserves_inv s t hs he
  · exact engineTurn_preserves_inv _ t (htaken rest) he
  · exact State.inv_transfer (htaken rest) x
  · exact State.inv_drivePresetn (htaken rest) level

/-- Settles O41. -/
theorem resetStateIsLegal : Obligations.ResetStateIsLegal :=
  State.inv_of_idle Memory.wf_powerOn Md5Context.legal_init rfl rfl

/-! ### Transfers while the engine is idle -/

theorem misaligned_eq_false (a : Addr) (ha : a.toNat % 4 = 0) : misaligned a = false := by
  simp [misaligned, ha]

/-- An aligned read while BUSY = 0 answers the current contents and changes nothing (R39). -/
theorem State.transfer_read_idle (s : State) (a : Addr) (prot : BitVec 3) (hpin : s.presetn = true)
    (hb : s.busy = false) (ha : a.toNat % 4 = 0) :
    s.transfer (.read a prot) = s.answered (.read (s.wordAt a) false) := by
  have hm := misaligned_eq_false a ha
  rw [s.transfer_read a prot hpin, s.readTransfer_contents a hm (by simp [hb]), hm]
  rfl

/-- An aligned write while BUSY = 0, with all strobes where the target asks for them, that is neither to STATUS nor a
soft reset: it is stored, without error (R37, R38). -/
theorem State.transfer_write_idle (s : State) (a : Addr) (d : Word) (strb : BitVec 4) (prot : BitVec 3)
    (hpin : s.presetn = true) (hb : s.busy = false) (ha : a.toNat % 4 = 0)
    (hw : (s.target a).wholeWord = true → strb = 15#4) (hs : a ≠ 8#13) (hr : ¬(a = 4#13 ∧ d[31] = true)) :
    s.transfer (.write a d strb prot) = (s.storeRegister (s.target a) d strb).answered (.wrote false) := by
  have he : s.busError (.write a d strb prot) = false := by
    simpa [State.busError, misaligned_eq_false a ha] using hw
  rw [s.transfer_write a d strb prot hpin, he, s.writeTransfer_stored a d strb prot hb he hs hr]
  rfl

/-- The same for a target that takes any strobes; STATUS and CTRL are not among them (R37). -/
theorem State.transfer_write_lanes (s : State) (a : Addr) (d : Word) (strb : BitVec 4) (prot : BitVec 3)
    (hpin : s.presetn = true) (hb : s.busy = false) (ha : a.toNat % 4 = 0) (hw : (s.target a).wholeWord = false) :
    s.transfer (.write a d strb prot) = (s.storeRegister (s.target a) d strb).answered (.wrote false) := by
  refine s.transfer_write_idle a d strb prot hpin hb ha (by simp [hw]) ?_ ?_
  · rintro rfl
    simp [Target.wholeWord] at hw
  · rintro ⟨rfl, -⟩
    simp [Target.wholeWord] at hw

@[simp] theorem State.arrayByte_answered (s : State) (r : BusResponse) (x : ArrayReg) (i : Nat) :
    (s.answered r).arrayByte x i = s.arrayByte x i := by cases x <;> rfl

@[simp] theorem State.wordAt_answered (s : State) (r : BusResponse) (a : Addr) :
    (s.answered r).wordAt a = s.wordAt a := by
  change (s.answered r).readTarget (s.target a) = s.readTarget (s.target a)
  cases s.target a with
  | array x j => cases x <;> rfl
  | _ => rfl

/-! ### The byte arrays (R24 to R30) -/

/-- The words of a byte array stand in order from its offset (R12, R24). -/
theorem State.target_array (s : State) (r : ArrayReg) (j : Nat) (hj : j < arrayBytes r / 4) :
    s.target (BitVec.ofNat 13 (arrayOffset r + 4 * j)) = .array r j := by
  have hlow (n : Nat) (hn : n < 0x100) : (BitVec.ofNat 13 n).toNat = n := by
    rw [BitVec.toNat_ofNat]; omega
  cases r <;> simp only [arrayBytes, arrayOffset] at hj ⊢ <;>
    rw [State.target, hlow _ (by omega)] <;>
    interval_cases j <;> rfl

theorem State.arrayWordOf_eq (s : State) (r : ArrayReg) (j : Nat) :
    s.arrayWordOf r j = wordOfBytes (s.arrayByte r (4 * j)) (s.arrayByte r (4 * j + 1))
      (s.arrayByte r (4 * j + 2)) (s.arrayByte r (4 * j + 3)) := by
  cases r <;> rfl

/-- A write of word `j` of a byte array sets the strobed bytes of that word and no others (R24, R38). -/
theorem State.arrayByte_writeArray (s : State) (r : ArrayReg) (j : Nat) (d : Word) (strb : BitVec 4) (i : Nat)
    (hr : r ≠ .digest) (hj : j < arrayBytes r / 4) :
    (s.writeArray r j d strb).arrayByte r i =
      if i / 4 = j ∧ strb.getLsbD (i % 4) = true then lane d (i % 4) else s.arrayByte r i := by
  have hi : i / 4 = j → i < arrayBytes r := by omega
  cases r with
  | digest => exact absurd rfl hr
  | _ =>
    simp only [State.writeArray, State.arrayByte, arrayWrite_getD]
    exact if_congr (and_iff_right_of_imp fun h => hi h.1) rfl rfl

/-- Settles O15. -/
theorem byteArrayWords : Obligations.ByteArrayWords := by
  intro s r j d strb prot hpin hb hj a
  have ht : s.target a = .array r j := s.target_array r j hj
  have ha : a.toNat % 4 = 0 := by
    have hoff : arrayOffset r % 4 = 0 := by cases r <;> rfl
    simp only [a, BitVec.toNat_ofNat]
    omega
  have hwrite : s.transfer (.write a d strb prot) = (s.writeArray r j d strb).answered (.wrote false) := by
    rw [s.transfer_write_lanes a d strb prot hpin hb ha (by rw [ht]; rfl), ht]
    rfl
  refine ⟨?_, ?_, fun hr i => ?_⟩
  · rw [s.transfer_read_idle a prot hpin hb ha, ← s.arrayWordOf_eq]
    simp [State.wordAt, ht, State.readTarget]
  · rintro rfl
    exact hwrite
  · rw [hwrite, State.arrayByte_answered, s.arrayByte_writeArray r j d strb i hr hj]

/-! ### Reserved and read-only offsets (R12, R13) -/

/-- The reserved offsets below the window: 0x034 to 0x03C and 0x100 to 0xFFC (R12). -/
def ReservedOffset (a : Nat) : Prop := (0x034 ≤ a ∧ a < 0x040) ∨ (0x100 ≤ a ∧ a < 0x1000)

theorem controlTarget_reserved : ∀ a, a < 0x040 → 0x034 ≤ a → controlTarget a = .reserved := by decide

theorem State.target_reserved (s : State) (a : Addr) (h : ReservedOffset a.toNat) : s.target a = .reserved := by
  obtain ⟨hlow, hhigh⟩ | ⟨hlow, hhigh⟩ := h
  · rw [s.target_low a hhigh, controlTarget_reserved _ hhigh hlow]
  · unfold State.target targetOf
    repeat rw [if_neg (by omega)]

theorem State.target_digest (s : State) (a : Addr) (hlow : 0x0B0 ≤ a.toNat) (hhigh : a.toNat < 0x0C0) :
    s.target a = .array .digest ((a.toNat - 0x0B0) / 4) := by
  unfold State.target targetOf
  repeat rw [if_neg (by omega)]
  rw [if_pos hhigh]

/-- The targets whose accepted writes have no effect (R38). STATUS is not among them: it is written before this point. -/
inductive Target.IgnoresWrites : Target → Prop where
  | id : IgnoresWrites .id
  | outlen : IgnoresWrites .outlen
  | chk : IgnoresWrites .chk
  | digest (j : Nat) : IgnoresWrites (.array .digest j)
  | reserved : IgnoresWrites .reserved

theorem State.transfer_write_ignored (s : State) (a : Addr) (d : Word) (strb : BitVec 4) (prot : BitVec 3)
    (hpin : s.presetn = true) (hb : s.busy = false) (ha : a.toNat % 4 = 0) (ht : (s.target a).IgnoresWrites) :
    s.transfer (.write a d strb prot) = s.answered (.wrote false) := by
  have hlanes : (s.target a).wholeWord = false := by
    generalize s.target a = x at ht
    cases ht <;> rfl
  have hkeep : s.storeRegister (s.target a) d strb = s := by
    generalize s.target a = x at ht
    cases ht <;> rfl
  rw [s.transfer_write_lanes a d strb prot hpin hb ha hlanes, hkeep]

/-- Settles O19. -/
theorem reservedAndReadOnlyOffsets : Obligations.ReservedAndReadOnlyOffsets := by
  intro s a ha
  refine ⟨rfl, fun hres => ?_, fun hro hpin hb d strb prot => ?_⟩
  · simp [State.wordAt, s.target_reserved a hres, State.readTarget]
  · refine s.transfer_write_ignored a d strb prot hpin hb ha ?_
    obtain hres | hres | rfl | rfl | rfl | ⟨hlow, hhigh⟩ := hro
    · exact s.target_reserved a (.inl hres) ▸ .reserved
    · exact s.target_reserved a (.inr hres) ▸ .reserved
    · exact .id
    · exact .outlen
    · exact .chk
    · exact s.target_digest a hlow hhigh ▸ .digest _

/-! ### The reset table (R35) -/

/-- What stands in the word of the register block at an offset after reset (R35). -/
def resetWord (a : Nat) : Word :=
  if a = 0x000 then 0xCB070100 else if a = 0x028 then 0x00000007 else if a = 0x02C then 0x00000009 else 0

theorem readTarget_reset_control :
    ∀ a, a < 0x040 → a % 4 = 0 → State.reset.readTarget (controlTarget a) = resetWord a := by
  decide

theorem arrayByte_reset (r : ArrayReg) (i : Nat) : State.reset.arrayByte r i = 0 := by
  have hzero (n : Nat) : ((Vector.replicate n (0 : Byte))[i]?).getD 0 = 0 := by
    rw [Vector.getElem?_replicate]
    split_ifs <;> rfl
  cases r <;> exact hzero _

/-- A state at its reset values shows the contents of the reset state, but for BUF. -/
theorem State.readTarget_of_reset (t : State) (h : t.resetRegisters = t) (x : Target) (hx : ∀ k, x ≠ .buf k) :
    t.readTarget x = State.reset.readTarget x := by
  rw [← h]
  cases x with
  | buf k => exact absurd rfl (hx k)
  | array r j => cases r <;> rfl
  | _ => rfl

/-- Every word of the register block of a state at its reset values (R35). -/
theorem State.wordAt_of_reset (t : State) (h : t.resetRegisters = t) (a : Addr) (ha : a.toNat % 4 = 0)
    (hhigh : a.toNat < 0x1000) : t.wordAt a = resetWord a.toNat := by
  have hbuf : ∀ k, t.target a ≠ .buf k := fun k hk => by
    have := targetOf_eq_buf _ _ _ hk
    omega
  rw [State.wordAt, t.readTarget_of_reset h _ hbuf]
  by_cases hlow : a.toNat < 0x040
  · rw [t.target_low a hlow, readTarget_reset_control _ hlow ha]
  · have hword : resetWord a.toNat = 0 := by
      unfold resetWord
      repeat rw [if_neg (by omega)]
    obtain ⟨r, j, ht⟩ | ⟨k, ht⟩ | ht := targetOf_high t.buf.size a.toNat (by omega)
    · rw [State.target, ht, hword, State.readTarget, State.arrayWordOf_eq]
      simp only [arrayByte_reset]
      rfl
    · exact absurd ht (hbuf k)
    · rw [State.target, ht, hword, State.readTarget]

theorem State.abort_buf_size (s : State) : s.abort.buf.size = s.buf.size := by
  obtain h | ⟨p, off, n, -, -, -, h⟩ := s.abort_cases <;> simp [h]

theorem State.abort_of_idle (s : State) (h : s.pend = none) : s.abort = s := by
  simp [State.abort, h]

/-- The three resets end alike: in the state of a reset that keeps BUF, under some pin level and recorded answer. -/
theorem reset_outcomes (s t : State)
    (h : (s.presetn = true ∧ ∃ d prot, d[31] = true ∧ t = s.transfer (.write 0x004 d 0xF prot)) ∨
      t = s.drivePresetn false ∨ (s.presetn = false ∧ t = s.drivePresetn true)) :
    ∃ level resp, t = { s.resetKeepingBuf with presetn := level, resp := resp } := by
  obtain ⟨hpin, d, prot, hd, rfl⟩ | rfl | ⟨hpin, rfl⟩ := h
  · have hsoft : s.writeTransfer 0x004 d 0xF = s.resetKeepingBuf := s.writeTransfer_softReset d hd
    refine ⟨s.resetKeepingBuf.presetn, some (.wrote (s.busError (.write 0x004 d 0xF prot))), ?_⟩
    rw [s.transfer_write _ _ _ _ hpin, hsoft]
  · exact ⟨_, _, if_neg (by simp)⟩
  · exact ⟨_, _, if_neg (by simp [hpin])⟩

/-- Settles O22, all three resets at once. -/
theorem resetsReachResetTable : Obligations.ResetsReachResetTable := by
  intro s t h
  obtain ⟨level, resp, rfl⟩ := reset_outcomes s t h
  have hstatus := State.wordAt_of_reset { s.resetKeepingBuf with presetn := level, resp := resp } rfl 8#13 rfl (by decide)
  refine ⟨fun a ha hhigh => ?_, hstatus, rfl, rfl, rfl, s.abort_buf_size, fun hidle => ?_⟩
  · rw [State.wordAt_of_reset _ rfl a ha hhigh]
    simp only [resetWord, BitVec.toNat_eq]
    rfl
  · change s.abort.buf = s.buf
    rw [s.abort_of_idle hidle]

/-! ### Bits of the packed registers -/

@[simp] theorem getElem_bitWord (b : Bool) (i : Nat) (hi : i < 32) : (bitWord b)[i] = (decide (i = 0) && b) := by
  cases b <;> simp [bitWord, BitVec.getElem_one]

@[simp] theorem getElem_byteWord (b : Byte) (i : Nat) (hi : i < 32) : (byteWord b)[i] = b.getLsbD i := by
  simp [byteWord]

theorem getElem_lane (w : Word) (b i : Nat) (hi : i < 8) : (lane w b)[i] = w.getLsbD (8 * b + i) := by
  simp [lane]

/-- Bit `i` of a merged word: from the word written where the strobe of its lane is set, else as it was (R38). -/
theorem getElem_mergeLanes (old d : Word) (strb : BitVec 4) (i : Nat) (hi : i < 32) :
    (mergeLanes old d strb)[i] = if strb.getLsbD (i / 8) = true then d[i] else old[i] := by
  have hlane (w : Word) : w[i] = (lane w (i / 8))[i % 8] := by
    rw [getElem_lane, Nat.div_add_mod, BitVec.getLsbD_eq_getElem hi]
  rw [hlane, hlane d, hlane old]
  simp only [lane_mergeLanes old d strb (i / 8) (by omega)]
  split_ifs <;> rfl

/-- Four bytes side by side are the four bytes shifted to their places (R19, R20). -/
theorem wordOfBytes_eq_or (b0 b1 b2 b3 : Byte) :
    wordOfBytes b0 b1 b2 b3 = byteWord b0 ||| byteWord b1 <<< 8 ||| byteWord b2 <<< 16 ||| byteWord b3 <<< 24 := by
  apply BitVec.eq_of_getLsbD_eq
  intro i hi
  simp only [wordOfBytes, byteWord, BitVec.getLsbD_append, BitVec.getLsbD_or, BitVec.getLsbD_shiftLeft,
    BitVec.getLsbD_setWidth]
  interval_cases i <;> simp

/-! ### Packing after unpacking: the defined bits of the word -/

theorem Ctrl.toWord_ofWord (d : Word) : (Ctrl.ofWord d).toWord = d &&& 0x00000007 := by
  ext i hi
  simp only [Ctrl.toWord, Ctrl.ofWord, BitVec.getElem_or, BitVec.getElem_and, BitVec.getElem_shiftLeft,
    getElem_bitWord]
  interval_cases i <;> simp

theorem Checks.toWord_ofWord (d : Word) : (Checks.ofWord d).toWord = d := wordOfBytes_lanes d

theorem CrcCfg.toWord_ofWord (d : Word) : (CrcCfg.ofWord d).toWord = d &&& 0x03FFFFFF := by
  ext i hi
  simp only [CrcCfg.toWord, CrcCfg.ofWord, lane, BitVec.getElem_or, BitVec.getElem_and, BitVec.getElem_shiftLeft,
    getElem_bitWord, getElem_byteWord, BitVec.getLsbD_extractLsb']
  interval_cases i <;> simp

theorem G1Cfg.toWord_ofWord (d : Word) : (G1Cfg.ofWord d).toWord = d &&& 0x0000010F := by
  ext i hi
  simp only [G1Cfg.toWord, G1Cfg.ofWord, BitVec.getElem_or, BitVec.getElem_and, BitVec.getElem_shiftLeft,
    getElem_bitWord]
  interval_cases i <;> simp

/-! ### Unpacking after packing: the fields, each at its own bits -/

@[simp] theorem Checks.ofWord_toWord (c : Checks) : Checks.ofWord c.toWord = c := by
  simp [Checks.ofWord, Checks.toWord]

@[simp] theorem CrcCfg.ofWord_toWord (c : CrcCfg) : CrcCfg.ofWord c.toWord = c := by
  obtain ⟨poly, init, xorout, refin, refout⟩ := c
  simp only [CrcCfg.ofWord, CrcCfg.mk.injEq]
  refine ⟨?_, ?_, ?_, by simp [CrcCfg.toWord], by simp [CrcCfg.toWord]⟩ <;>
  · ext i hi
    rw [getElem_lane _ _ i hi]
    interval_cases i <;> simp [CrcCfg.toWord]

@[simp] theorem G1Cfg.ofWord_toWord (c : G1Cfg) : G1Cfg.ofWord c.toWord = c := by
  simp [G1Cfg.ofWord, G1Cfg.toWord]

/-! ### What an accepted write leaves in the fields (R20 to R22, R38) -/

theorem Checks.ofWord_mergeLanes (old d : Word) (strb : BitVec 4) :
    Checks.ofWord (mergeLanes old d strb) = {
      crc := if strb[0] then lane d 0 else (Checks.ofWord old).crc
      g1 := if strb[1] then lane d 1 else (Checks.ofWord old).g1
      lrc := if strb[2] then lane d 2 else (Checks.ofWord old).lrc
      g2 := if strb[3] then lane d 3 else (Checks.ofWord old).g2 } := by
  simp [Checks.ofWord, lane_mergeLanes]

theorem CrcCfg.ofWord_mergeLanes (old d : Word) (strb : BitVec 4) :
    CrcCfg.ofWord (mergeLanes old d strb) = {
      poly := if strb[0] then lane d 0 else (CrcCfg.ofWord old).poly
      init := if strb[1] then lane d 1 else (CrcCfg.ofWord old).init
      xorout := if strb[2] then lane d 2 else (CrcCfg.ofWord old).xorout
      refin := if strb[3] then d[24] else (CrcCfg.ofWord old).refin
      refout := if strb[3] then d[25] else (CrcCfg.ofWord old).refout } := by
  simp [CrcCfg.ofWord, lane_mergeLanes, getElem_mergeLanes]

theorem G1Cfg.ofWord_mergeLanes (old d : Word) (strb : BitVec 4) :
    G1Cfg.ofWord (mergeLanes old d strb) = {
      r0OddNot := if strb[0] then d[0] else (G1Cfg.ofWord old).r0OddNot
      r0EvenNot := if strb[0] then d[1] else (G1Cfg.ofWord old).r0EvenNot
      r1OddNot := if strb[0] then d[2] else (G1Cfg.ofWord old).r1OddNot
      r1EvenNot := if strb[0] then d[3] else (G1Cfg.ofWord old).r1EvenNot
      gprev0 := if strb[1] then d[8] else (G1Cfg.ofWord old).gprev0 } := by
  simp [G1Cfg.ofWord, getElem_mergeLanes]

/-! ### The words of the control registers -/

theorem State.wordAt_crccfg (s : State) : s.wordAt 0x028 = s.crccfg.toWord := rfl
theorem State.wordAt_g1cfg (s : State) : s.wordAt 0x02C = s.g1cfg.toWord := rfl
theorem State.wordAt_ctrl (s : State) : s.wordAt 0x004 = s.ctrl.toWord := rfl

/-- A write to an operand register while BUSY = 0 replaces the strobed lanes of its word (R17, R20, R38). -/
theorem State.wordAt_transfer_write_lanes (s : State) (a : Addr) (d : Word) (strb : BitVec 4) (prot : BitVec 3)
    (hpin : s.presetn = true) (hb : s.busy = false) (ha : a ∈ [(0x010 : Addr), 0x014, 0x018, 0x024]) :
    (s.transfer (.write a d strb prot)).wordAt a = mergeLanes (s.wordAt a) d strb := by
  simp only [List.mem_cons, List.not_mem_nil, or_false] at ha
  obtain rfl | rfl | rfl | rfl := ha <;>
    rw [s.transfer_write_lanes _ d strb prot hpin hb rfl rfl, State.wordAt_answered]
  · rfl
  · rfl
  · rfl
  · exact Checks.toWord_ofWord _

/-- What a write to CHKREF, CRCCFG or G1CFG while BUSY = 0 leaves in the register: the strobed lanes, unpacked. -/
theorem State.transfer_write_fields (s : State) (d : Word) (strb : BitVec 4) (prot : BitVec 3)
    (hpin : s.presetn = true) (hb : s.busy = false) :
    (s.transfer (.write 0x024 d strb prot)).chkref = Checks.ofWord (mergeLanes s.chkref.toWord d strb) ∧
    (s.transfer (.write 0x028 d strb prot)).crccfg = CrcCfg.ofWord (mergeLanes s.crccfg.toWord d strb) ∧
    (s.transfer (.write 0x02C d strb prot)).g1cfg = G1Cfg.ofWord (mergeLanes s.g1cfg.toWord d strb) := by
  refine ⟨?_, ?_, ?_⟩ <;>
  · rw [s.transfer_write_lanes _ d strb prot hpin hb rfl rfl]
    rfl

/-- A write to CTRL with SRST clear while BUSY = 0 takes its three stored bits (R14). -/
theorem State.transfer_write_ctrl (s : State) (d : Word) (prot : BitVec 3) (hpin : s.presetn = true)
    (hb : s.busy = false) (hd : d[31] = false) :
    (s.transfer (.write 0x004 d 0xF prot)).ctrl = Ctrl.ofWord d := by
  rw [s.transfer_write_idle 0x004 d 0xF prot hpin hb rfl (fun _ => rfl) (by decide) (by simp [hd])]
  rfl

/-- Settles O17. -/
theorem writtenRegisterReadsBack : Obligations.WrittenRegisterReadsBack := by
  refine ⟨fun s => ⟨rfl, rfl, rfl, rfl, rfl, rfl, rfl, wordOfBytes_eq_or _ _ _ _, wordOfBytes_eq_or _ _ _ _, rfl, rfl⟩,
    fun s d strb prot hpin hb => ?_⟩
  obtain ⟨hchkref, hcrccfg, hg1cfg⟩ := s.transfer_write_fields d strb prot hpin hb
  refine ⟨fun a ha b hlt => ?_, ?_, ?_, fun hd => ?_, fun hd => ?_, ?_, ?_, ?_⟩
  · rw [s.wordAt_transfer_write_lanes a d strb prot hpin hb ha, lane_mergeLanes _ _ _ b hlt]
  · rw [State.wordAt_crccfg, hcrccfg, CrcCfg.toWord_ofWord, State.wordAt_crccfg]
  · rw [State.wordAt_g1cfg, hg1cfg, G1Cfg.toWord_ofWord, State.wordAt_g1cfg]
  · rw [State.wordAt_ctrl, s.transfer_write_ctrl d prot hpin hb hd, Ctrl.toWord_ofWord]
  · exact s.transfer_write_ctrl d prot hpin hb hd
  · rw [hchkref, Checks.ofWord_mergeLanes, Checks.ofWord_toWord]
    rfl
  · rw [hcrccfg, CrcCfg.ofWord_mergeLanes, CrcCfg.ofWord_toWord]
    rfl
  · rw [hg1cfg, G1Cfg.ofWord_mergeLanes, G1Cfg.ofWord_toWord]

end Sys2Proof.Machine

/-! SUPPORT. The proofs of the family `20_memory.md`: bus errors, dropped writes, what reads return, the buffer window,
the frame of a write, and that the latency of a command cannot be seen in the data. -/

namespace Sys2Proof.Machine

/-! ### Bus errors (R37) -/

/-- The registers that take no partial write stand at four offsets. -/
theorem State.target_wholeWord_iff (s : State) (a : Addr) :
    (s.target a).wholeWord = true ↔ a ∈ [(0x004 : Addr), 0x008, 0x00C, 0x030] := by
  have hreg : (s.target a).wholeWord = true ↔
      s.target a = .ctrl ∨ s.target a = .status ∨ s.target a = .cmd ∨ s.target a = .xlat := by
    cases s.target a <;> simp [Target.wholeWord]
  rw [hreg, s.target_eq_ctrl, s.target_eq_status, s.target_eq_cmd, s.target_eq_xlat]
  simp

theorem misaligned_iff (a : Addr) : misaligned a = true ↔ a.toNat % 4 ≠ 0 := by simp [misaligned]

theorem State.busError_write_iff (s : State) (a : Addr) (d : Word) (strb : BitVec 4) (prot : BitVec 3) :
    s.busError (.write a d strb prot) = true ↔
      a.toNat % 4 ≠ 0 ∨ (a ∈ [(0x004 : Addr), 0x008, 0x00C, 0x030] ∧ strb ≠ 0xF) := by
  rw [State.busError, Bool.or_eq_true, Bool.and_eq_true, misaligned_iff, s.target_wholeWord_iff, bne_iff_ne]

theorem State.aligned_of_busError (s : State) (a : Addr) (d : Word) (strb : BitVec 4) (prot : BitVec 3)
    (he : s.busError (.write a d strb prot) = false) : a.toNat % 4 = 0 := by
  by_contra ha
  rw [(s.busError_write_iff a d strb prot).2 (.inl ha)] at he
  cases he

/-- A write without a bus error to one of the four registers has all strobes set. -/
theorem State.strobes_of_busError (s : State) (a : Addr) (d : Word) (strb : BitVec 4) (prot : BitVec 3)
    (he : s.busError (.write a d strb prot) = false) (ha : a ∈ [(0x004 : Addr), 0x008, 0x00C, 0x030]) :
    strb = 0xF := by
  by_contra hstrb
  rw [(s.busError_write_iff a d strb prot).2 (.inr ⟨ha, hstrb⟩)] at he
  cases he

/-- An erroring write has no effect but its answer. -/
theorem State.transfer_write_busError (s : State) (a : Addr) (d : Word) (strb : BitVec 4) (prot : BitVec 3)
    (hpin : s.presetn = true) (he : s.busError (.write a d strb prot) = true) :
    s.transfer (.write a d strb prot) = s.answered (.wrote true) := by
  rw [s.transfer_write a d strb prot hpin, s.writeTransfer_busError a d strb prot he, he]
  rfl

/-- An erroring read has no effect but its answer, which is 0. -/
theorem State.transfer_read_misaligned (s : State) (a : Addr) (prot : BitVec 3) (hpin : s.presetn = true)
    (ha : a.toNat % 4 ≠ 0) : s.transfer (.read a prot) = s.answered (.read 0 true) := by
  have hm := (misaligned_iff a).2 ha
  rw [s.transfer_read a prot hpin, s.readTransfer_misaligned a hm, hm]
  rfl

/-- Settles O12. -/
theorem busErrorsAreExactAndHarmless : Obligations.BusErrorsAreExactAndHarmless := by
  intro s hpin
  refine ⟨fun a d strb prot => ⟨fun hbad => ?_, fun hbad => ?_⟩, fun a prot => ⟨fun ha => ?_, fun ha => ?_⟩⟩
  · exact s.transfer_write_busError a d strb prot hpin ((s.busError_write_iff a d strb prot).2 hbad)
  · have he : s.busError (.write a d strb prot) = false :=
      Bool.eq_false_of_not_eq_true (mt (s.busError_write_iff a d strb prot).1 hbad)
    rw [s.transfer_write a d strb prot hpin, he]
  · exact s.transfer_read_misaligned a prot hpin ha
  · exact ⟨(s.readTransfer a).1, by rw [s.transfer_read a prot hpin, misaligned_eq_false a ha]⟩

/-! ### Writes that are dropped (R38) -/

/-- Among the writes without a bus error, the soft resets are those to CTRL with bit 31 set (R37, R161). -/
theorem State.isSoftReset_iff (s : State) (a : Addr) (d : Word) (strb : BitVec 4) (prot : BitVec 3)
    (he : s.busError (.write a d strb prot) = false) :
    IsSoftReset (.write a d strb prot) ↔ a = 4#13 ∧ d[31] = true := by
  constructor
  · rintro ⟨d', prot', h, hd⟩
    cases h
    exact ⟨rfl, hd⟩
  · rintro ⟨rfl, hd⟩
    exact ⟨d, prot, by rw [s.strobes_of_busError _ d strb prot he (by decide)]; rfl, hd⟩

/-- Settles O10. -/
theorem busyDropsWrites : Obligations.BusyDropsWrites := by
  intro s a d strb prot hpin hb he hs hr
  rw [s.isSoftReset_iff a d strb prot he] at hr
  rw [s.transfer_write a d strb prot hpin, he, s.writeTransfer_dropped a d strb prot hb he hs hr]

/-! ### The window in the register map (R12, R41) -/

/-- Below the window the map does not depend on the size of BUF. -/
theorem State.target_below_window (s : State) (a : Addr) (h : a.toNat < 0x1000) :
    s.target a = targetOf 0 a.toNat := by
  have hwin : ¬0x1000 ≤ a.toNat := by omega
  simp only [State.target, targetOf, hwin, false_and]

theorem State.target_window (s : State) (a : Addr) (hlow : 0x1000 ≤ a.toNat) (hhigh : a.toNat < 0x1000 + s.buf.size) :
    s.target a = .buf (a.toNat - 0x1000) := by
  unfold State.target targetOf
  repeat rw [if_neg (by omega)]
  rw [if_pos (by omega)]

theorem State.target_past_window (s : State) (a : Addr) (hlow : 0x1000 ≤ a.toNat)
    (hhigh : 0x1000 + s.buf.size ≤ a.toNat) : s.target a = .reserved := by
  unfold State.target targetOf
  repeat rw [if_neg (by omega)]

/-- What an aligned offset names: a word of the register block, a word of the buffer window, or reserved space. -/
theorem State.target_cases (s : State) (a : Addr) (ha : a.toNat % 4 = 0) :
    (∃ w, w < 0x040 ∧ a.toNat = 4 * w ∧ s.target a = targetOf 0 (4 * w)) ∨
    (0x1000 ≤ a.toNat ∧ a.toNat < 0x1000 + s.buf.size ∧ s.target a = .buf (a.toNat - 0x1000)) ∨
    (0x100 ≤ a.toNat ∧ ¬(0x1000 ≤ a.toNat ∧ a.toNat < 0x1000 + s.buf.size) ∧ s.target a = .reserved) := by
  by_cases hregs : a.toNat < 0x100
  · have hword : 4 * (a.toNat / 4) = a.toNat := by omega
    exact .inl ⟨a.toNat / 4, by omega, hword.symm, by rw [hword, s.target_below_window a (by omega)]⟩
  by_cases hbelow : a.toNat < 0x1000
  · exact .inr (.inr ⟨by omega, by omega, s.target_reserved a (.inr (by omega))⟩)
  by_cases hwindow : a.toNat < 0x1000 + s.buf.size
  · exact .inr (.inl ⟨by omega, hwindow, s.target_window a (by omega) hwindow⟩)
  · exact .inr (.inr ⟨by omega, by omega, s.target_past_window a (by omega) (by omega)⟩)

/-! ### What a read returns (R39) -/

/-- The words of the registers that the engine owns while BUSY = 1, word by word. -/
theorem targetOf_engineOwned : ∀ w, w < 0x040 →
    ((targetOf 0 (4 * w)).engineOwned = true ↔ 4 * w = 0x01C ∨ 4 * w = 0x020 ∨ 0x040 ≤ 4 * w) := by
  decide

/-- The words the engine owns while BUSY = 1: OUTLEN, CHK, the byte arrays and the buffer window. -/
theorem State.target_engineOwned_iff (s : State) (a : Addr) (ha : a.toNat % 4 = 0) :
    (s.target a).engineOwned = true ↔ a = 0x01C ∨ a = 0x020 ∨ (0x040 ≤ a.toNat ∧ a.toNat < 0x100) ∨
      (0x1000 ≤ a.toNat ∧ a.toNat < 0x1000 + s.buf.size) := by
  rw [show a = 0x01C ↔ a.toNat = 0x01C from BitVec.toNat_eq, show a = 0x020 ↔ a.toNat = 0x020 from BitVec.toNat_eq]
  obtain ⟨w, hw, hword, ht⟩ | ⟨hlow, hhigh, ht⟩ | ⟨hregs, hout, ht⟩ := s.target_cases a ha <;> rw [ht]
  · rw [targetOf_engineOwned w hw]
    omega
  · simp only [Target.engineOwned, true_iff]
    omega
  · simp only [Target.engineOwned, Bool.false_eq_true, false_iff]
    omega

/-- Settles O13. -/
theorem readsReturnContentsOrDraws : Obligations.ReadsReturnContentsOrDraws := by
  intro s a prot hpin ha owned
  have howned : (s.target a).engineOwned = true ↔ owned := s.target_engineOwned_iff a ha
  have hm := misaligned_eq_false a ha
  rw [← howned, s.transfer_read a prot hpin, hm]
  refine ⟨fun ⟨hb, ho⟩ => ?_, fun ho => ?_⟩
  · rw [s.readTransfer_unspecified a hm hb ho]
  · rw [s.readTransfer_contents a hm ho]
    rfl

/-! ### The buffer window (R41, R42) -/

/-- The bytes of a window word after a strobed write to it. -/
theorem Memory.read_writeLanes_inside (m : Memory) (k : Nat) (d : Word) (strb : BitVec 4) (b : Nat) (hb : b < 4) :
    (m.writeLanes k d strb).read (k + b) = if strb.getLsbD b then lane d b else m.read (k + b) := by
  simp [Memory.read_writeLanes, hb]

theorem Memory.read_writeLanes_outside (m : Memory) (k : Nat) (d : Word) (strb : BitVec 4) (x : Nat)
    (hx : ¬(k ≤ x ∧ x < k + 4)) : (m.writeLanes k d strb).read x = m.read x := by
  rw [Memory.read_writeLanes, if_neg fun h => hx ⟨h.1, h.2.1⟩]

/-- Settles O14. -/
theorem bufferWindowWords : Obligations.BufferWindowWords := by
  intro s k d strb prot hpin hb _ hk hmax a
  have hnat : a.toNat = 0x1000 + k := by
    rw [BitVec.toNat_ofNat]
    omega
  have ha : a.toNat % 4 = 0 := by omega
  refine ⟨fun hin => ?_, fun hpast => ?_⟩
  · have ht : s.target a = .buf k := by
      rw [s.target_window a (by omega) (by omega), hnat, Nat.add_sub_cancel_left]
    refine ⟨?_, s.buf.writeLanes k d strb, ?_, Memory.writeLanes_size .., ?_, ?_⟩
    · rw [s.transfer_read_idle a prot hpin hb ha, State.wordAt, ht]
      rfl
    · rw [s.transfer_write_lanes a d strb prot hpin hb ha (by rw [ht]; rfl), ht]
      rfl
    · exact s.buf.read_writeLanes_inside k d strb
    · exact s.buf.read_writeLanes_outside k d strb
  · have ht : s.target a = .reserved := s.target_past_window a (by omega) (by omega)
    refine ⟨?_, ?_⟩
    · rw [s.transfer_read_idle a prot hpin hb ha, State.wordAt, ht]
      rfl
    · exact s.transfer_write_ignored a d strb prot hpin hb ha (ht ▸ .reserved)

/-! ### Each word of the window has one offset (R12) -/

/-- The offset at which a target stands; reserved space has no offset of its own. -/
def Target.offset : Target → Nat
  | .id | .reserved => 0x000
  | .ctrl => 0x004
  | .status => 0x008
  | .cmd => 0x00C
  | .src => 0x010
  | .dst => 0x014
  | .len => 0x018
  | .outlen => 0x01C
  | .chk => 0x020
  | .chkref => 0x024
  | .crccfg => 0x028
  | .g1cfg => 0x02C
  | .xlat => 0x030
  | .array r j => arrayOffset r + 4 * j
  | .buf k => 0x1000 + k

theorem offset_targetOf : ∀ w, w < 0x040 →
    targetOf 0 (4 * w) ≠ .reserved → (targetOf 0 (4 * w)).offset = 4 * w := by
  decide

/-- The register map, read backwards: an aligned offset is the offset of what it names. -/
theorem State.offset_target (s : State) (a : Addr) (ha : a.toNat % 4 = 0) (h : s.target a ≠ .reserved) :
    (s.target a).offset = a.toNat := by
  obtain ⟨w, hw, hword, ht⟩ | ⟨hlow, -, ht⟩ | ⟨-, -, ht⟩ := s.target_cases a ha
  · rw [ht] at h ⊢
    rw [offset_targetOf w hw h, hword]
  · rw [ht, Target.offset]
    omega
  · exact absurd ht h

/-- Two offsets of the window that name the same word are the same, but in reserved space. -/
theorem State.eq_of_target_eq (s : State) (a b : Addr) (ha : a.toNat % 4 = 0) (hb : b.toNat % 4 = 0)
    (h : s.target b = s.target a) (hres : s.target a ≠ .reserved) : b = a := by
  have hoff := s.offset_target a ha hres
  have hoff' := s.offset_target b hb (ne_of_eq_of_ne h hres)
  exact BitVec.eq_of_toNat_eq (by rw [← hoff, ← hoff']; exact congrArg Target.offset h)

/-! ### The frame of an accepted write (R38, R45) -/

theorem arrayWord_arrayWrite_other {n : Nat} (v : Vector Byte n) (i j : Nat) (d : Word) (strb : BitVec 4)
    (h : i ≠ j) : arrayWord (arrayWrite v j d strb) i = arrayWord v i := by
  have hbyte (b : Nat) (hb : b < 4) : ((arrayWrite v j d strb)[4 * i + b]?).getD 0 = (v[4 * i + b]?).getD 0 := by
    rw [arrayWrite_getD, if_neg (by omega)]
  simp only [arrayWord, hbyte 1 (by omega), hbyte 2 (by omega), hbyte 3 (by omega)]
  rw [← Nat.add_zero (4 * i), hbyte 0 (by omega)]

/-- A write of a byte-array word leaves every other byte-array word: those of the same array by their bytes, those of
another array because it is another field. -/
theorem State.arrayWordOf_writeArray_other (s : State) (r q : ArrayReg) (i j : Nat) (d : Word) (strb : BitVec 4)
    (h : q = r → i ≠ j) : (s.writeArray r j d strb).arrayWordOf q i = s.arrayWordOf q i := by
  by_cases hq : q = r
  · subst hq
    cases q with
    | digest => rfl
    | _ => exact arrayWord_arrayWrite_other _ i j d strb (h rfl)
  · cases r <;> cases q <;> first | exact absurd rfl hq | simp only [State.writeArray, State.arrayWordOf]

theorem Memory.readWord_writeLanes_other (m : Memory) (i k : Nat) (d : Word) (strb : BitVec 4)
    (h : i + 4 ≤ k ∨ k + 4 ≤ i) : (m.writeLanes k d strb).readWord i = m.readWord i := by
  unfold Memory.readWord
  repeat rw [m.read_writeLanes_outside k d strb _ (by omega)]

/-- An accepted write to another target than CMD leaves the word of every other target; window words are told apart
by their BUF offsets. -/
theorem State.readTarget_storeRegister_other (s : State) (t u : Target) (d : Word) (strb : BitVec 4)
    (hcmd : t ≠ .cmd) (hne : u ≠ t) (hbuf : ∀ i k, u = .buf i → t = .buf k → i + 4 ≤ k ∨ k + 4 ≤ i) :
    (s.storeRegister t d strb).readTarget u = s.readTarget u := by
  cases t with
  | cmd => exact absurd rfl hcmd
  | array r j =>
    cases u with
    | array q i =>
      refine s.arrayWordOf_writeArray_other r q i j d strb ?_
      rintro rfl rfl
      exact hne rfl
    | _ =>
      cases r <;> simp only [State.storeRegister, State.writeArray, State.readTarget, State.statusWord, State.busy,
        State.errFlag, State.errcode]
  | buf k =>
    cases u with
    | buf i => exact s.buf.readWord_writeLanes_other i k d strb (hbuf i k rfl rfl)
    | array q i => cases q <;> rfl
    | _ => rfl
  | _ =>
    cases u with
    | array q i => cases q <;> rfl
    | _ => first | exact absurd rfl hne | rfl

theorem State.storeRegister_target (s : State) (t : Target) (d : Word) (strb : BitVec 4) (b : Addr) :
    (s.storeRegister t d strb).target b = s.target b := by
  have hsize : (s.storeRegister t d strb).buf.size = s.buf.size := by
    by_cases h : ∃ k, t = .buf k
    · obtain ⟨k, rfl⟩ := h
      exact Memory.writeLanes_size ..
    · rw [s.storeRegister_buf t d strb (not_exists.1 h)]
  rw [State.target, State.target, hsize]

/-- An accepted write to a word other than CMD leaves every other word of the window. -/
theorem State.wordAt_storeRegister_other (s : State) (a b : Addr) (d : Word) (strb : BitVec 4)
    (ha : a.toNat % 4 = 0) (hb : b.toNat % 4 = 0) (hcmd : s.target a ≠ .cmd) (hne : b ≠ a) :
    (s.storeRegister (s.target a) d strb).wordAt b = s.wordAt b := by
  rw [State.wordAt, s.storeRegister_target, State.wordAt]
  by_cases hres : s.target a = .reserved
  · rw [hres]
    rfl
  refine s.readTarget_storeRegister_other _ _ d strb hcmd (fun h => hne (s.eq_of_target_eq a b ha hb h hres)) ?_
  intro i k hi hk
  have hi' := targetOf_eq_buf _ _ _ hi
  have hk' := targetOf_eq_buf _ _ _ hk
  have := BitVec.toNat_ne.1 hne
  omega

/-- Settles O16. -/
theorem writesLeaveOtherWords : Obligations.WritesLeaveOtherWords := by
  intro s a d strb prot hpin hb he hs hc hr
  rw [s.isSoftReset_iff a d strb prot he] at hr
  have hcmd : s.target a ≠ .cmd := mt (s.target_eq_cmd a).1 hc
  have hstatus : Target.status ≠ s.target a := fun h => hs ((s.target_eq_status a).1 h.symm)
  have hstored : s.transfer (.write a d strb prot) = (s.storeRegister (s.target a) d strb).answered (.wrote false) := by
    rw [s.transfer_write a d strb prot hpin, he, s.writeTransfer_stored a d strb prot hb he hs hr]
    rfl
  obtain ⟨hmd5, hpend, -⟩ := s.storeRegister_keeps (s.target a) d strb hcmd
  rw [hstored]
  refine ⟨fun b hb' hne => ?_, ?_, hpend.trans ((s.busy_false_iff).1 hb), hmd5⟩
  · rw [State.wordAt_answered,
      s.wordAt_storeRegister_other a b d strb (s.aligned_of_busError a d strb prot he) hb' hcmd hne]
  · exact s.readTarget_storeRegister_other _ .status d strb hcmd hstatus (fun i k h => nomatch h)

/-! ### What no command reads (R48, R64) -/

/-- The fields of the state that no command reads. Completion writes the first two; no command writes the others. -/
structure Unread where
  done     : Bool
  err      : Option ErrCode
  wbusy    : Bool
  schedule : List Turn
  resp     : Option BusResponse
  draws    : Nat

/-- `s` with those fields replaced. -/
def State.withUnread (s : State) (c : Unread) : State :=
  { s with done := c.done, err := c.err, wbusy := c.wbusy, schedule := c.schedule, resp := c.resp, draws := c.draws }

@[simp] theorem State.withUnread_buf (s : State) (c : Unread) : (s.withUnread c).buf = s.buf := rfl
@[simp] theorem State.withUnread_rkey (s : State) (c : Unread) : (s.withUnread c).rkey = s.rkey := rfl
@[simp] theorem State.withUnread_iv (s : State) (c : Unread) : (s.withUnread c).iv = s.iv := rfl

/-- The same fields at a completion that ends as `t` does (R61). -/
def Unread.completedAs (c : Unread) (t : State) : Unread := { c with done := t.done, err := t.err }

theorem sameData_withUnread_completedAs (t : State) (c : Unread) :
    SameData t (t.withUnread (c.completedAs t)) := by
  simp only [SameData, State.withUnread, Unread.completedAs, and_self]

/-- A meaning whose run does not read the unread fields completes alike whatever they hold. -/
theorem withCommand_withUnread {s t : State} {c : Unread} {run run' : Pending → State × Option ErrCode}
    (h : withCommand s run = .next t) (hrun : ∀ p, run' p = ((run p).1.withUnread c, (run p).2)) :
    withCommand (s.withUnread c) run' = .next (t.withUnread (c.completedAs t)) := by
  obtain ⟨p, hp, rfl⟩ := withCommand_next s t run h
  rw [withCommand_pending (s.withUnread c) p run' hp, hrun p]
  rfl

theorem withSource_withUnread (s : State) (c : Unread) (p : Pending) (run run' : List Byte → State × Option ErrCode)
    (hrun : ∀ data, run' data = ((run data).1.withUnread c, (run data).2)) :
    withSource (s.withUnread c) p run' = ((withSource s p run).1.withUnread c, (withSource s p run).2) := by
  by_cases h : p.srcOff + p.length ≤ s.buf.size
  · rw [withSource_inBounds s p run h, withSource_inBounds (s.withUnread c) p run' h]
    exact hrun _
  · rw [withSource_outOfBounds s p run h, withSource_outOfBounds (s.withUnread c) p run' h]

/-- A command answers the same data whatever the unread fields hold (R48). -/
theorem exec_withUnread (i : Instr) (s t : State) (c : Unread) (h : exec i s = .next t) :
    exec i (s.withUnread c) = .next (t.withUnread (c.completedAs t)) := by
  cases i with
  | crc8Buf | lrcBuf | md5Update =>
    exact withCommand_withUnread h fun p => withSource_withUnread s c p _ _ fun data => rfl
  | md5Final dest => exact withCommand_withUnread h fun p => by cases dest <;> rfl
  | aesCbcEnc pad =>
    refine withCommand_withUnread h fun p => ?_
    simp only [State.withUnread_buf]
    cases encCheck s.buf pad p <;> rfl
  | aesCbcDec pad =>
    refine withCommand_withUnread h fun p => ?_
    simp only [State.withUnread_buf, State.withUnread_rkey, State.withUnread_iv]
    generalize cbcDec s.rkey s.iv (s.buf.readBytes p.srcOff p.length) = y
    cases decCheck s.buf p with
    | some e => rfl
    | none =>
      cases pad with
      | false => rfl
      | true => cases unpad y <;> rfl
  | _ => exact withCommand_withUnread h fun p => rfl

/-- The engine's turn on a pending command ends in the same data whatever the unread fields hold. -/
theorem engineTurn_withUnread (s : State) (p : Pending) (hpin : s.presetn = true) (hp : s.pend = some p) :
    ∃ t, engineTurn s = .next t ∧
      ∀ c : Unread, engineTurn (s.withUnread c) = .next (t.withUnread (c.completedAs t)) := by
  cases hd : decode p.word with
  | ok i =>
    obtain ⟨t, ht⟩ := exec_next_of_pending i s p hp
    refine ⟨t, (engineTurn_ok s p i hpin hp hd).trans ht, fun c => ?_⟩
    exact (engineTurn_ok (s.withUnread c) p i hpin hp hd).trans (exec_withUnread i s t c ht)
  | error e =>
    exact ⟨_, engineTurn_error s p e hpin hp hd, fun c => engineTurn_error (s.withUnread c) p e hpin hp hd⟩

/-! ### What the host can do to a pending command (R38, R39, R48) -/

/-- Whatever the host writes while a command is pending, but for a soft reset, changes only flags. -/
theorem State.writeTransfer_busy (s : State) (a : Addr) (d : Word) (strb : BitVec 4) (prot : BitVec 3)
    (hb : s.busy = true) (hx : ¬IsSoftReset (.write a d strb prot)) :
    ∃ done err wbusy, s.writeTransfer a d strb = { s with done := done, err := err, wbusy := wbusy } := by
  by_cases he : s.busError (.write a d strb prot) = true
  · exact ⟨_, _, _, s.writeTransfer_busError a d strb prot he⟩
  have he := Bool.eq_false_of_not_eq_true he
  rw [s.isSoftReset_iff a d strb prot he] at hx
  by_cases hs : a = 8#13
  · subst hs
    rw [s.strobes_of_busError _ d strb prot he (by decide)]
    exact ⟨_, _, _, s.writeTransfer_status d⟩
  · exact ⟨_, _, _, s.writeTransfer_dropped a d strb prot hb he hs hx⟩

/-- No transfer but a soft reset changes what a pending command reads. -/
theorem State.transfer_busy (s : State) (x : Transfer) (hpin : s.presetn = true) (hb : s.busy = true)
    (hx : ¬IsSoftReset x) : ∃ c : Unread, c.schedule = s.schedule ∧ s.transfer x = s.withUnread c := by
  cases x with
  | write a d strb prot =>
    obtain ⟨done, err, wbusy, h⟩ := s.writeTransfer_busy a d strb prot hb hx
    rw [s.transfer_write a d strb prot hpin, h]
    exact ⟨⟨done, err, wbusy, s.schedule, _, s.draws⟩, rfl, rfl⟩
  | read a prot =>
    rw [s.transfer_read a prot hpin]
    obtain h | h := s.readTransfer_state a <;> rw [h]
    · exact ⟨⟨s.done, s.err, s.wbusy, s.schedule, _, s.draws⟩, rfl, rfl⟩
    · exact ⟨⟨s.done, s.err, s.wbusy, s.schedule, _, s.draws + 1⟩, rfl, rfl⟩

/-- A run over the host's transfers while a command is pending reaches the turns after them with only unread fields
changed. -/
theorem run_transfers_busy (xs : List Transfer) (k : Nat) (s : State) (turns : List Turn) (hpin : s.presetn = true)
    (hb : s.busy = true) (hxs : ∀ x ∈ xs, ¬IsSoftReset x) (hsched : s.schedule = xs.map Turn.bus ++ turns) :
    ∃ c : Unread, c.schedule = turns ∧
      Sys2Proof.core.run (xs.length + k) s = Sys2Proof.core.run k (s.withUnread c) := by
  induction xs generalizing s with
  | nil =>
    refine ⟨⟨s.done, s.err, s.wbusy, s.schedule, s.resp, s.draws⟩, hsched, ?_⟩
    rw [List.length_nil, Nat.zero_add]
    rfl
  | cons x rest ih =>
    obtain ⟨hx, hrest⟩ := List.forall_mem_cons.1 hxs
    obtain ⟨c, hc, ht⟩ := State.transfer_busy { s with schedule := rest.map Turn.bus ++ turns } x hpin hb hx
    have hstep : step s = .next (s.withUnread c) := (step_bus s x _ hsched).trans (congrArg _ ht)
    obtain ⟨c', hc', hrun⟩ := ih (s.withUnread c) hpin hb hrest hc
    refine ⟨c', hc', ?_⟩
    rw [List.length_cons, Nat.add_right_comm, run_succ _ s _ hstep]
    exact hrun

/-- Settles O46: the transfers before the engine's turn change only what no command reads, and of that the completion
writes DONE and ERR again. -/
theorem latencyIsInvisible : Obligations.LatencyIsInvisible := by
  intro s p xs rest hpin hp hxs hsched
  have hb : s.busy = true := s.busy_iff.2 ⟨p, hp⟩
  obtain ⟨t, ht, hany⟩ := engineTurn_withUnread { s with schedule := rest } p hpin hp
  obtain ⟨c, hc, hrun⟩ := run_transfers_busy xs 1 s (.engine :: rest) hpin hb hxs hsched
  have hlast := (step_engine (s.withUnread c) rest hc).trans (hany { c with schedule := rest })
  refine ⟨t, _, ?_, ?_, sameData_withUnread_completedAs t { c with schedule := rest }, rfl⟩
  · exact (step_engine { s with schedule := .engine :: rest } rest rfl).trans ht
  · rw [hrun, run_succ 0 _ _ hlast]
    rfl

end Sys2Proof.Machine

/-! SUPPORT. The proofs of the family `30_encoding.md`: the decoder inverts the encoder and accepts exactly the legal
words, the worked encodings, the completion of an illegal word, and the outputs each command writes. -/

namespace Sys2Proof.Machine

/-! ### The encoder (R50, R51) -/

/-- The word of a command, cut into the fields of CMD32, is its record of fields, and these are legal. -/
theorem encode_fields (i : Instr) : Laws.EncodeFields.Statement i := by
  cases i with
  | nop => exact Laws.EncodeFields.nop
  | crc8Ivenc => exact Laws.EncodeFields.crc8Ivenc
  | crc8Buf => exact Laws.EncodeFields.crc8Buf
  | lrcBuf => exact Laws.EncodeFields.lrcBuf
  | gchkIvenc => exact Laws.EncodeFields.gchkIvenc
  | verifyG0 => exact Laws.EncodeFields.verifyG0
  | verifyG1 => exact Laws.EncodeFields.verifyG1
  | md5Init => exact Laws.EncodeFields.md5Init
  | md5Update => exact Laws.EncodeFields.md5Update
  | md5UpdateSumb => exact Laws.EncodeFields.md5UpdateSumb
  | md5Final dest => exact Laws.EncodeFields.md5Final dest
  | cmpDigest => exact Laws.EncodeFields.cmpDigest
  | kdHex => exact Laws.EncodeFields.kdHex
  | kdUuid => exact Laws.EncodeFields.kdUuid
  | kdG0 => exact Laws.EncodeFields.kdG0
  | kdG1 => exact Laws.EncodeFields.kdG1
  | ivMaskG0 => exact Laws.EncodeFields.ivMaskG0
  | ivMaskG1 => exact Laws.EncodeFields.ivMaskG1
  | ivUnmaskG0 => exact Laws.EncodeFields.ivUnmaskG0
  | ivUnmaskG1 => exact Laws.EncodeFields.ivUnmaskG1
  | aesCbcEnc pad => exact Laws.EncodeFields.aesCbcEnc pad
  | aesCbcDec pad => exact Laws.EncodeFields.aesCbcDec pad

@[simp] theorem cmd32OfWord_encode (i : Instr) : cmd32OfWord (encode i) = i.fields := (encode_fields i).1

@[simp] theorem wf_fields (i : Instr) : i.fields.wf = true := (encode_fields i).2

/-- The four fields of CMD32 cover the word (R50). -/
theorem cmd32OfWord_injective (v w : Word) (h : cmd32OfWord v = cmd32OfWord w) : v = w := by
  simp only [cmd32OfWord, Cmd32.mk.injEq] at h
  obtain ⟨hop, hpad, hdest, hrsvd⟩ := h
  ext k hk
  obtain hk8 | rfl | rfl | hk10 : k < 8 ∨ k = 8 ∨ k = 9 ∨ 10 ≤ k := by omega
  · have hbit := congrArg (·.getLsbD k) hop
    simpa [hk8, hk] using hbit
  · exact hpad
  · exact hdest
  · have hbit := congrArg (·.getLsbD (k - 10)) hrsvd
    simpa [hk, Nat.add_sub_cancel' hk10, show k - 10 < 22 by omega] using hbit

/-! ### The opcode map (R51, R53) -/

theorem opcode_mem_definedOps (i : Instr) : i.opcode ∈ definedOps := by
  have hwf := wf_fields i
  simp only [Cmd32.wf, Cmd32.opDefined, Bool.and_eq_true, List.contains_iff_mem] at hwf
  obtain ⟨⟨⟨hop, -⟩, -⟩, -⟩ := hwf
  exact hop

/-- The row of a command's opcode, with the command's own flags, is the command. -/
theorem commandOfOpcode_fields (i : Instr) : commandOfOpcode i.opcode i.padFlag i.destFlag = some i := by
  cases i with
  | md5Final dest => cases dest <;> rfl
  | _ => rfl

/-- An opcode that selects a command is that command's opcode; its flags are those read, where it takes them. -/
theorem fields_of_commandOfOpcode (op : Byte) (pad dest : Bool) (i : Instr) (h : commandOfOpcode op pad dest = some i) :
    i.opcode = op ∧ i.padFlag = (pad && (op == 0x40 || op == 0x41)) ∧ i.destFlag = (dest && op == 0x23) := by
  have hop : BitVec.ofNat 8 op.toNat = op := by simp
  unfold commandOfOpcode at h
  split at h
  case h_23 => cases h
  all_goals
    next hrow =>
      rw [hrow] at hop
      subst hop
      cases h
      revert pad dest
      decide

theorem commandOfOpcode_of_mem (op : Byte) (pad dest : Bool) (h : op ∈ definedOps) :
    ∃ i, commandOfOpcode op pad dest = some i := by
  rw [← Option.isSome_iff_exists]
  revert op
  cases pad <;> cases dest <;> decide

/-! ### The legality mask (R53) -/

/-- A word has no bit outside a mask. -/
theorem and_not_eq_zero_iff (w m : Word) : w &&& ~~~m = 0 ↔ ∀ k (h : k < 32), w[k] = true → m[k] = true := by
  constructor
  · intro h k hk hw
    have hbit : (w &&& ~~~m)[k] = (0 : Word)[k] := by rw [h]
    simpa [hw] using hbit
  · intro h
    ext k hk
    cases hw : w[k] with
    | false => simp [hw]
    | true => simp [hw, h k hk hw]

/-- The bits that a word with a given opcode may set: OP, and the flags the opcode takes. -/
theorem getElem_legalMask (op : Byte) (k : Nat) (hk : k < 32) :
    (0xFF ||| allowedFlags op)[k] = true ↔
      k < 8 ∨ (k = 8 ∧ (op = 0x40 ∨ op = 0x41)) ∨ (k = 9 ∧ op = 0x23) := by
  have hpad : ∀ k (hk : k < 32), (0xFF ||| 0x100 : Word)[k] = true ↔ k < 8 ∨ k = 8 := by decide
  have hdest : ∀ k (hk : k < 32), (0xFF ||| 0x200 : Word)[k] = true ↔ k < 8 ∨ k = 9 := by decide
  have hplain : ∀ k (hk : k < 32), (0xFF ||| 0 : Word)[k] = true ↔ k < 8 := by decide
  by_cases haes : op = 0x40 ∨ op = 0x41
  · have hflags : allowedFlags op = 0x100 := if_pos haes
    have hfinal : op ≠ 0x23 := by rintro rfl; revert haes; decide
    simp only [hflags, hpad, haes, hfinal, and_true, and_false, or_false]
  · by_cases hfinal : op = 0x23
    · have hflags : allowedFlags op = 0x200 := (if_neg haes).trans (if_pos hfinal)
      rw [hflags, hdest, eq_true hfinal, eq_false haes, and_false, false_or, and_true]
    · have hflags : allowedFlags op = 0 := (if_neg haes).trans (if_neg hfinal)
      simp only [hflags, hplain, haes, hfinal, and_false, or_false]

/-- R53's formula says of the fields what R50 does: each flag on its own opcodes, the reserved bits 0. -/
theorem mask_eq_zero_iff (w : Word) :
    w &&& ~~~(0xFF ||| allowedFlags (w.extractLsb' 0 8)) = 0 ↔
      (cmd32OfWord w).padAllowed = true ∧ (cmd32OfWord w).destAllowed = true ∧ (cmd32OfWord w).rsvd = 0 := by
  have hpad : (cmd32OfWord w).padAllowed = true ↔
      (w[8] = true → w.extractLsb' 0 8 = 0x40 ∨ w.extractLsb' 0 8 = 0x41) := by
    cases h : w[8] <;> simp [Cmd32.padAllowed, cmd32OfWord, h]
  have hdest : (cmd32OfWord w).destAllowed = true ↔ (w[9] = true → w.extractLsb' 0 8 = 0x23) := by
    cases h : w[9] <;> simp [Cmd32.destAllowed, cmd32OfWord, h]
  rw [and_not_eq_zero_iff, hpad, hdest]
  simp only [getElem_legalMask]
  constructor
  · intro h
    refine ⟨fun h8 => ?_, fun h9 => ?_, ?_⟩
    · simpa using h 8 (by omega) h8
    · simpa using h 9 (by omega) h9
    · simp only [cmd32OfWord]
      ext k hk
      have hbit := h (10 + k) (by omega)
      simpa [BitVec.getLsbD_eq_getElem (show 10 + k < 32 by omega), show ¬10 + k < 8 by omega,
        show 10 + k ≠ 8 by omega, show 10 + k ≠ 9 by omega] using hbit
  · rintro ⟨h8, h9, hrsvd⟩ k hk hw
    obtain hk8 | rfl | rfl | hk10 : k < 8 ∨ k = 8 ∨ k = 9 ∨ 10 ≤ k := by omega
    · exact .inl hk8
    · exact .inr (.inl ⟨rfl, h8 hw⟩)
    · exact .inr (.inr ⟨rfl, h9 hw⟩)
    · have hbit := congrArg (·.getLsbD (k - 10)) hrsvd
      simp [cmd32OfWord, Nat.add_sub_cancel' hk10, show k - 10 < 22 by omega, hk, hw] at hbit

/-- The field checks and R53's formula are the same condition on a word. -/
theorem cmd32OfWord_wf_iff (w : Word) : (cmd32OfWord w).wf = true ↔
    w.extractLsb' 0 8 ∈ definedOps ∧ w &&& ~~~(0xFF ||| allowedFlags (w.extractLsb' 0 8)) = 0 := by
  rw [mask_eq_zero_iff]
  simp [Cmd32.wf, Cmd32.opDefined, Cmd32.rsvdZero, cmd32OfWord, and_assoc]

/-! ### The decoder (R53) -/

theorem decode_eq_ok_iff (w : Word) (i : Instr) : decode w = .ok i ↔
    commandOfOpcode (w.extractLsb' 0 8) w[8] w[9] = some i ∧
    w &&& ~~~(0xFF ||| allowedFlags (w.extractLsb' 0 8)) = 0 := by
  simp only [decode]
  cases commandOfOpcode (w.extractLsb' 0 8) w[8] w[9] with
  | none => simp
  | some j =>
    split_ifs with hmask <;>
      simp only [hmask, and_true, and_false, Except.ok.injEq, Option.some.injEq]

theorem exists_decode_eq_ok_iff (w : Word) : (∃ i, decode w = .ok i) ↔
    w.extractLsb' 0 8 ∈ definedOps ∧ w &&& ~~~(0xFF ||| allowedFlags (w.extractLsb' 0 8)) = 0 := by
  simp only [decode_eq_ok_iff]
  constructor
  · rintro ⟨i, hrow, hmask⟩
    obtain ⟨hop, -⟩ := fields_of_commandOfOpcode _ _ _ _ hrow
    exact ⟨hop ▸ opcode_mem_definedOps i, hmask⟩
  · rintro ⟨hop, hmask⟩
    obtain ⟨i, hrow⟩ := commandOfOpcode_of_mem _ w[8] w[9] hop
    exact ⟨i, hrow, hmask⟩

theorem exists_decode_eq_ok_iff_wf (w : Word) : (∃ i, decode w = .ok i) ↔ (cmd32OfWord w).wf = true := by
  rw [exists_decode_eq_ok_iff, cmd32OfWord_wf_iff]

/-- A word decodes to a command exactly when its fields are the command's. -/
theorem decode_eq_ok_iff_fields (w : Word) (i : Instr) : decode w = .ok i ↔ cmd32OfWord w = i.fields := by
  rw [decode_eq_ok_iff]
  constructor
  · rintro ⟨hrow, hmask⟩
    obtain ⟨hpad, hdest, hrsvd⟩ := (mask_eq_zero_iff w).1 hmask
    obtain ⟨hop, hpadFlag, hdestFlag⟩ := fields_of_commandOfOpcode _ _ _ _ hrow
    have hpad' : i.padFlag = w[8] := by
      rw [hpadFlag]
      cases h : w[8] <;> simp_all [Cmd32.padAllowed, cmd32OfWord]
    have hdest' : i.destFlag = w[9] := by
      rw [hdestFlag]
      cases h : w[9] <;> simp_all [Cmd32.destAllowed, cmd32OfWord]
    rw [Instr.fields, hop, hpad', hdest', ← hrsvd]
    rfl
  · intro h
    have hwf := (cmd32OfWord_wf_iff w).1 (h ▸ wf_fields i)
    simp only [cmd32OfWord, Instr.fields, Cmd32.mk.injEq] at h
    obtain ⟨hop, hpad, hdest, -⟩ := h
    rw [hpad, hdest, hop]
    exact ⟨commandOfOpcode_fields i, hop ▸ hwf.2⟩

/-- A word decodes to a command exactly when it is the command's word. -/
theorem decode_eq_ok_iff_eq_encode (w : Word) (i : Instr) : decode w = .ok i ↔ w = encode i := by
  rw [decode_eq_ok_iff_fields, ← cmd32OfWord_encode i]
  exact ⟨cmd32OfWord_injective w _, congrArg cmd32OfWord⟩

@[simp] theorem decode_encode (i : Instr) : decode (encode i) = .ok i :=
  (decode_eq_ok_iff_eq_encode _ i).2 rfl

/-- The bytes of a word, read back, decode as the word does, and leave what follows them (R42). -/
theorem decodeBytes_bytesOfWord (w : Word) (rest : List Byte) (i : Instr) (h : decode w = .ok i) :
    decodeBytes (bytesOfWord w ++ rest) = .ok (i, rest) := by
  simp only [bytesOfWord, List.cons_append, List.nil_append, decodeBytes, wordOfBytes_lanes, h]

/-- Settles O1. -/
theorem decodeInvertsEncode : Obligations.DecodeInvertsEncode := fun i rest _ =>
  ⟨decode_encode i, decodeBytes_bytesOfWord _ rest i (decode_encode i)⟩

/-- Settles O2. -/
theorem decoderAcceptsExactlyLegalWords : Obligations.DecoderAcceptsExactlyLegalWords := fun w =>
  ⟨exists_decode_eq_ok_iff w, exists_decode_eq_ok_iff_wf w, decode_eq_ok_iff_eq_encode w⟩

/-- Settles O3: each of the words is the encoding of its row. -/
theorem opcodeMapWords : Obligations.OpcodeMapWords :=
  ⟨decode_encode .nop, decode_encode .crc8Ivenc, decode_encode .crc8Buf, decode_encode .lrcBuf,
    decode_encode .gchkIvenc, decode_encode .verifyG0, decode_encode .verifyG1, decode_encode .md5Init,
    decode_encode .md5Update, decode_encode .md5UpdateSumb, decode_encode (.md5Final .digest),
    decode_encode (.md5Final .sum), decode_encode .cmpDigest, decode_encode .kdHex, decode_encode .kdUuid,
    decode_encode .kdG0, decode_encode .kdG1, decode_encode .ivMaskG0, decode_encode .ivMaskG1,
    decode_encode .ivUnmaskG0, decode_encode .ivUnmaskG1, decode_encode (.aesCbcEnc false),
    decode_encode (.aesCbcEnc true), decode_encode (.aesCbcDec false), decode_encode (.aesCbcDec true)⟩

/-- A word with illegal fields decodes to an error. -/
theorem decode_error_of_not_wf (w : Word) (h : (cmd32OfWord w).wf = false) : ∃ e, decode w = .error e := by
  cases hd : decode w with
  | error e => exact ⟨e, rfl⟩
  | ok i =>
    rw [(exists_decode_eq_ok_iff_wf w).1 ⟨i, hd⟩] at h
    cases h

/-! ### The worked encodings (R59) -/

/-- The illegal words of R59: PAD on MD5_FINAL, PAD on CRC8_IVENC, a reserved opcode, a reserved bit. -/
theorem not_wf_of_worked_illegal :
    ∀ w ∈ [(0x00000123 : Word), 0x00000110, 0x00000042, 0x00000400], (cmd32OfWord w).wf = false := by
  simp only [List.forall_mem_cons, List.not_mem_nil, false_imp_iff, implies_true, and_true]
  exact ⟨by decide, by decide, by decide, by decide⟩

theorem wrbytes_worked : wrbytes 6 [0xAA, 0xBB, 0xCC] =
    [wrStrobed (0x1000 + 4) 0xBBAA0000 0b1100, wrStrobed (0x1000 + 8) 0x000000CC 0b0001] := by decide

/-- A strobed write to a word of the buffer window while BUSY = 0 writes its lanes (R41). -/
theorem State.transfer_wrStrobed_window (s : State) (k : Nat) (d : Word) (strb : BitVec 4) (hpin : s.presetn = true)
    (hb : s.busy = false) (hk : k % 4 = 0) (hin : k < s.buf.size) (hmax : s.buf.size ≤ 4096) :
    s.transfer (wrStrobed (0x1000 + k) d strb) = (s.setBuf (s.buf.writeLanes k d strb)).answered (.wrote false) := by
  have hnat : (BitVec.ofNat 13 (0x1000 + k)).toNat = 0x1000 + k := by
    rw [BitVec.toNat_ofNat]
    omega
  have ht : s.target (BitVec.ofNat 13 (0x1000 + k)) = .buf k := by
    rw [s.target_window _ (by omega) (by omega), hnat, Nat.add_sub_cancel_left]
  rw [wrStrobed, s.transfer_write_lanes _ d strb 0 hpin hb (by omega) (by rw [ht]; rfl), ht]
  rfl

/-- BUF after the two transfers of `wrbytes 6, AA BB CC` from reset. -/
theorem wrbytes_worked_buf : ((wrbytes 6 [0xAA, 0xBB, 0xCC]).foldl State.transfer State.reset).buf =
    Memory.powerOn.writeBytes 6 [0xAA, 0xBB, 0xCC] := by
  rw [wrbytes_worked, List.foldl_cons, List.foldl_cons, List.foldl_nil,
    State.transfer_wrStrobed_window _ 4 _ _ rfl rfl rfl (by decide) (by decide),
    State.transfer_wrStrobed_window _ 8 _ _ rfl rfl rfl (by decide) (by decide)]
  decide

/-- Settles O4. -/
theorem workedEncodings : Obligations.WorkedEncodings := by
  refine ⟨rfl, rfl, rfl, fun w hw i hi => ?_, by decide, wrbytes_worked, ?_⟩
  · obtain ⟨e, he⟩ := decode_error_of_not_wf w (not_wf_of_worked_illegal w hw)
    rw [he] at hi
    cases hi
  · simp only [BufSameOutside, wrbytes_worked_buf]
    have hread (k : Nat) (hk : k < 3) := Memory.powerOn.read_writeBytes_inside 6 k [0xAA, 0xBB, 0xCC] hk
    exact ⟨hread 0 (by decide), hread 1 (by decide), hread 2 (by decide), Memory.writeBytes_size .., fun a ha =>
      Memory.powerOn.read_writeBytes_outside 6 a [0xAA, 0xBB, 0xCC] ha⟩

/-! ### Frames: the rules -/

theorem SameInputs.trans {s t u : State} (h : SameInputs s t) (h' : SameInputs t u) : SameInputs s u := by
  simp_all only [SameInputs, and_self]

theorem Output.Same.trans {s t u : State} (o : Output) (h : o.Same s t) (h' : o.Same t u) : o.Same s u := by
  cases o with
  | buf => exact ⟨h'.1.trans h.1, fun a => (h'.2 a).trans (h.2 a)⟩
  | _ => exact Eq.trans h' h

theorem Frame.refl (written : List Output) (s : State) : Frame written s s :=
  ⟨by simp only [SameInputs, and_self], fun o _ => by cases o <;> simp [Output.Same]⟩

theorem Frame.mono {written more : List Output} {s t : State} (h : Frame written s t) (hsub : written ⊆ more) :
    Frame more s t :=
  ⟨h.1, fun o ho => h.2 o fun hw => ho (hsub hw)⟩

/-- Two changes in a row write what either writes. -/
theorem Frame.trans {written more : List Output} {s t u : State} (h : Frame written s t) (h' : Frame more t u) :
    Frame (written ++ more) s u := by
  refine ⟨h.1.trans h'.1, fun o ho => ?_⟩
  rw [List.mem_append, not_or] at ho
  exact .trans o (h.2 o ho.1) (h'.2 o ho.2)

/-- Completion writes STATUS alone, which is no output (R61). -/
theorem frame_complete (s : State) (code : Option ErrCode) : Frame [] s (s.complete code) :=
  ⟨by simp [SameInputs], fun o _ => by cases o <;> simp [Output.Same]⟩

theorem Frame.complete {written : List Output} {s t : State} (h : Frame written s t) (code : Option ErrCode) :
    Frame written s (t.complete code) :=
  (h.trans (frame_complete t code)).mono (by simp)

/-! ### Frames: one rule per register update -/

section
variable (s : State)

theorem frame_setOutlen (n : Nat) : Frame [.outlen] s (s.setOutlen n) :=
  ⟨by simp [SameInputs], fun o ho => by cases o <;> simp_all [Output.Same]⟩

theorem frame_setChkCrc (c : Byte) : Frame [.chkCrc] s (s.setChkCrc c) :=
  ⟨by simp [SameInputs], fun o ho => by cases o <;> simp_all [Output.Same]⟩

theorem frame_setChkLrc (l : Byte) : Frame [.chkLrc] s (s.setChkLrc l) :=
  ⟨by simp [SameInputs], fun o ho => by cases o <;> simp_all [Output.Same]⟩

theorem frame_withGcheck : Frame [.chkG1, .chkLrc, .chkG2] s s.withGcheck :=
  ⟨by simp [SameInputs, State.withGcheck], fun o ho => by cases o <;> simp_all [Output.Same, State.withGcheck]⟩

theorem frame_setRkey (v : Vector Byte 32) : Frame [.rkey] s (s.setRkey v) :=
  ⟨by simp [SameInputs], fun o ho => by cases o <;> simp_all [Output.Same]⟩

theorem frame_setIv (v : Vector Byte 16) : Frame [.iv] s (s.setIv v) :=
  ⟨by simp [SameInputs], fun o ho => by cases o <;> simp_all [Output.Same]⟩

theorem frame_setIvenc (v : Vector Byte 16) : Frame [.ivenc] s (s.setIvenc v) :=
  ⟨by simp [SameInputs], fun o ho => by cases o <;> simp_all [Output.Same]⟩

theorem frame_setSum (v : Vector Byte 16) : Frame [.sum] s (s.setSum v) :=
  ⟨by simp [SameInputs], fun o ho => by cases o <;> simp_all [Output.Same]⟩

theorem frame_setDigest (v : Vector Byte 16) : Frame [.digest] s (s.setDigest v) :=
  ⟨by simp [SameInputs], fun o ho => by cases o <;> simp_all [Output.Same]⟩

theorem frame_setSumb (v : Vector Byte 32) : Frame [.sumb] s (s.setSumb v) :=
  ⟨by simp [SameInputs], fun o ho => by cases o <;> simp_all [Output.Same]⟩

theorem frame_setMd5 (m : Md5Context) : Frame [.md5] s (s.setMd5 m) :=
  ⟨by simp [SameInputs], fun o ho => by cases o <;> simp_all [Output.Same]⟩

theorem frame_setBuf (m : Memory) : Frame [.buf] s (s.setBuf m) :=
  ⟨by simp [SameInputs], fun o ho => by cases o <;> simp_all [Output.Same]⟩

end

/-! ### An illegal word (R53, R132) -/

/-- STATUS right after a completion with ILLEGAL_COMMAND (R130). -/
theorem statusWord_complete_illegal (s : State) (h : s.wbusy = false) :
    (s.complete (some .illegalCommand)).statusWord = 0x00000106 := by
  simp only [State.statusWord, State.busy, State.errFlag, State.errcode, State.complete_pend, State.complete_done,
    State.complete_err, State.complete_wbusy, h]
  rfl

/-- Settles O7: the engine's turn decodes the word to an error, whichever form the schedule has. -/
theorem illegalWordChangesOnlyStatus : Obligations.IllegalWordChangesOnlyStatus := by
  intro s p rest hpin hp hwf hsched
  obtain ⟨e, he⟩ := decode_error_of_not_wf p.word hwf
  have hturn := engineTurn_error { s with schedule := rest } p e hpin hp he
  have hstep : step s = engineTurn { s with schedule := rest } := by
    obtain h | ⟨h, rfl⟩ := hsched
    · exact step_engine s rest h
    · rw [step_idle s h, ← h]
  exact ⟨_, hstep.trans hturn, ⟨rfl, rfl, rfl⟩, frame_complete _ _, statusWord_complete_illegal _⟩

/-! ### What each command writes (R52) -/

/-- The frame of a command is the frame of its run. -/
theorem frame_of_withCommand {written : List Output} {s t : State} {run : Pending → State × Option ErrCode}
    (h : withCommand s run = .next t) (hrun : ∀ p, Frame written s (run p).1) : Frame written s t :=
  withCommand_next_of h fun p => (hrun p).complete _

/-- The frame of a command with a source region is the frame of its run on bytes: BOUNDS writes nothing (R63). -/
theorem frame_of_withSource {written : List Output} {s t : State}
    {run : Pending → List Byte → State × Option ErrCode} (h : withCommand s (fun p => withSource s p (run p)) = .next t)
    (hrun : ∀ p data, Frame written s (run p data).1) : Frame written s t :=
  frame_of_withCommand h fun p => withSource_of (P := fun r => Frame written s r.1) (Frame.refl written s) (hrun p)

/-- An AES command that sets OUTLEN alone stays within its outputs. -/
theorem frame_setOutlen_aes (s : State) (n : Nat) : Frame [.buf, .outlen] s (s.setOutlen n) :=
  (frame_setOutlen s n).mono (by simp)

theorem frame_setBuf_setOutlen (s : State) (m : Memory) (n : Nat) :
    Frame [.buf, .outlen] s ((s.setBuf m).setOutlen n) :=
  (frame_setBuf s m).trans (frame_setOutlen _ n)

theorem frame_md5Final (dest : DigestDest) (s t : State) (h : exec (.md5Final dest) s = .next t) :
    Frame (writesOf (.md5Final dest)) s t := by
  refine frame_of_withCommand h fun p => ?_
  cases dest with
  | digest => exact (frame_setDigest s _).trans (frame_setMd5 _ _)
  | sum => exact (frame_setSum s _).trans (frame_setMd5 _ _)

theorem frame_aesCbcEnc (pad : Bool) (s t : State) (h : exec (.aesCbcEnc pad) s = .next t) :
    Frame [.buf, .outlen] s t := by
  refine frame_of_withCommand h fun p => ?_
  dsimp only
  split
  · exact frame_setOutlen_aes s _
  · exact frame_setBuf_setOutlen s _ _

theorem frame_aesCbcDec (pad : Bool) (s t : State) (h : exec (.aesCbcDec pad) s = .next t) :
    Frame [.buf, .outlen] s t := by
  refine frame_of_withCommand h fun p => ?_
  dsimp only
  split
  · exact frame_setOutlen_aes s _
  split_ifs
  · exact frame_setBuf_setOutlen s _ _
  · split <;> exact frame_setBuf_setOutlen s _ _

/-- Every command stays within the outputs of its row (R52). -/
theorem exec_frame (i : Instr) (s t : State) (h : exec i s = .next t) : Frame (writesOf i) s t := by
  cases i with
  | nop | cmpDigest => exact frame_of_withCommand h fun _ => Frame.refl _ s
  | crc8Buf => exact frame_of_withSource h fun _ _ => frame_setChkCrc s _
  | lrcBuf => exact frame_of_withSource h fun _ _ => frame_setChkLrc s _
  | md5Update => exact frame_of_withSource h fun _ _ => frame_setMd5 s _
  | crc8Ivenc | verifyG0 => exact frame_of_withCommand h fun _ => frame_setChkCrc s _
  | gchkIvenc | verifyG1 => exact frame_of_withCommand h fun _ => frame_withGcheck s
  | md5Init | md5UpdateSumb => exact frame_of_withCommand h fun _ => frame_setMd5 s _
  | md5Final dest => exact frame_md5Final dest s t h
  | kdHex | kdUuid => exact frame_of_withCommand h fun _ => frame_setSumb s _
  | kdG0 | kdG1 => exact frame_of_withCommand h fun _ => frame_setRkey s _
  | ivMaskG0 | ivMaskG1 => exact frame_of_withCommand h fun _ => frame_setIvenc s _
  | ivUnmaskG0 | ivUnmaskG1 => exact frame_of_withCommand h fun _ => frame_setIv s _
  | aesCbcEnc pad => exact frame_aesCbcEnc pad s t h
  | aesCbcDec pad => exact frame_aesCbcDec pad s t h

/-- Settles O43. -/
theorem commandsWriteOnlyTheirOutputs : Obligations.CommandsWriteOnlyTheirOutputs := fun i s t h =>
  ⟨exec_frame i s t h, exec_next_completed i s t h⟩

end Sys2Proof.Machine

/-! SUPPORT. The proofs of the family `40_control.md`: issue, the engine's turn, the checks a command fails, the whole
life of a NOP, and that every step answers and every pending command ends. -/

namespace Sys2Proof.Machine

/-! ### The engine's turn (R61, R69) -/

/-- While PRESETn is low the engine has no step (R160). -/
theorem engineTurn_inReset (s : State) (h : s.presetn = false) : engineTurn s = .next s := if_pos h

/-- While BUSY = 0 the engine has no step (R61). -/
theorem engineTurn_idle (s : State) (h : s.pend = none) : engineTurn s = .next s := by
  simp only [engineTurn, State.fetch, h, Option.map_none, ite_self]

/-- Out of reset the engine's turn completes a pending command, whatever its word. -/
theorem engineTurn_completes (s : State) (p : Pending) (hpin : s.presetn = true) (hp : s.pend = some p) :
    ∃ t, engineTurn s = .next t ∧ t.pend = none := by
  cases hd : decode p.word with
  | ok i =>
    obtain ⟨t, ht⟩ := exec_next_of_pending i s p hp
    exact ⟨t, (engineTurn_ok s p i hpin hp hd).trans ht, (exec_next_completed i s t ht).1⟩
  | error e => exact ⟨_, engineTurn_error s p e hpin hp hd, rfl⟩

theorem engineTurn_answers (s : State) : ∃ t, engineTurn s = .next t := by
  cases hpin : s.presetn with
  | false => exact ⟨s, engineTurn_inReset s hpin⟩
  | true =>
    cases hp : s.pend with
    | none => exact ⟨s, engineTurn_idle s hp⟩
    | some p =>
      obtain ⟨t, ht, -⟩ := engineTurn_completes s p hpin hp
      exact ⟨t, ht⟩

/-- The step is the engine's turn when that turn is next, and when no turn is waiting. -/
theorem step_of_engine_next (s : State) (rest : List Turn)
    (h : s.schedule = .engine :: rest ∨ (s.schedule = [] ∧ rest = [])) :
    step s = engineTurn { s with schedule := rest } := by
  obtain h | ⟨h, rfl⟩ := h
  · exact step_engine s rest h
  · rw [step_idle s h, ← h]

/-- Settles O5. -/
theorem stepRunsDecodedCommand : Obligations.StepRunsDecodedCommand := fun s p i hpin hp hd =>
  ⟨fun h => (step_idle s h).trans (engineTurn_ok s p i hpin hp hd),
    fun rest h => (step_engine s rest h).trans (engineTurn_ok _ p i hpin hp hd)⟩

/-- Settles O8. -/
theorem idleEngineHasNoStep : Obligations.IdleEngineHasNoStep := fun s hp =>
  ⟨fun h => (step_idle s h).trans (engineTurn_idle s hp),
    fun rest h => (step_engine s rest h).trans (engineTurn_idle _ hp)⟩

/-! ### Issue (R60) -/

/-- A table word decodes through its bytes as the word itself does (R42). -/
theorem decode_of_decodeTableWord (nbits w : Nat) (i : Instr) (h : decodeTableWord nbits w = some i) :
    decode (tableWord nbits w) = .ok i := by
  simp only [decodeTableWord, bytesOfWord, decodeBytes, wordOfBytes_lanes] at h
  cases hd : decode (tableWord nbits w) with
  | ok j => simpa [hd] using h
  | error e => simp [hd] at h

/-- Settles O6. -/
theorem fetchedTableWordRunsNext : Obligations.FetchedTableWordRunsNext := fun s nbits w i hi =>
  ⟨rfl, (step_engine _ s.schedule rfl).trans
    (engineTurn_ok _ _ i rfl rfl (decode_of_decodeTableWord nbits w i hi))⟩

/-- An accepted CMD write is the issue of its word. -/
theorem State.transfer_cmd_idle (s : State) (d : Word) (prot : BitVec 3) (hpin : s.presetn = true)
    (hb : s.busy = false) : s.transfer (.write 0x00C d 0xF prot) = (s.issue d).answered (.wrote false) :=
  s.transfer_write_idle 0x00C d 0xF prot hpin hb rfl (fun _ => rfl) (by decide) (fun h => absurd h.1 (by decide))

/-- A CMD write while BUSY = 1 only sets WBUSY. -/
theorem State.transfer_cmd_busy (s : State) (d : Word) (prot : BitVec 3) (hpin : s.presetn = true)
    (hb : s.busy = true) :
    s.transfer (.write 0x00C d 0xF prot) = { s with wbusy := true, resp := some (.wrote false) } := by
  refine busyDropsWrites s 0x00C d 0xF prot hpin hb rfl (by decide) ?_
  rw [s.isSoftReset_iff _ d _ prot rfl]
  exact fun h => absurd h.1 (by decide)

/-- Settles O9. -/
theorem cmdWriteIssuesOrIsDropped : Obligations.CmdWriteIssuesOrIsDropped := fun s d prot hpin =>
  ⟨s.transfer_cmd_idle d prot hpin, s.transfer_cmd_busy d prot hpin⟩

/-! ### A source region out of bounds (R63, R133) -/

/-- A command with its source region out of bounds completes with BOUNDS and has no other effect. -/
theorem withSource_raises_bounds (s : State) (p : Pending) (run : Pending → List Byte → State × Option ErrCode)
    (hp : s.pend = some p) (h : s.buf.size < p.srcOff + p.length) :
    withCommand s (fun p => withSource s p (run p)) = .next (s.complete (some .bounds)) := by
  rw [withCommand_pending s p _ hp, withSource_outOfBounds s p (run p) (by omega)]

/-- Settles O27: all three commands are of the shape `withSource`. -/
theorem sourceOutOfBoundsChangesOnlyStatus : Obligations.SourceOutOfBoundsChangesOnlyStatus := by
  intro s p hp hout i hi
  have hraise (run : Pending → List Byte → State × Option ErrCode) := withSource_raises_bounds s p run hp hout
  have hexec : exec i s = .next (s.complete (some .bounds)) := by
    simp only [List.mem_cons, List.not_mem_nil, or_false] at hi
    obtain rfl | rfl | rfl := hi
    · exact hraise fun _ data => (s.setChkCrc (crc8 s.crccfg data), none)
    · exact hraise fun _ data => (s.setChkLrc (lrc data), none)
    · exact hraise fun _ data => (s.setMd5 (s.md5.absorb data), none)
  exact ⟨_, hexec, ⟨rfl, rfl, rfl⟩, frame_complete s _⟩

/-! ### The checks of the AES commands (R62, R119, R120) -/

theorem encCheck_length (m : Memory) (p : Pending) (h : p.length % 16 ≠ 0) :
    encCheck m false p = some .cipherLenWrong := if_pos ⟨rfl, h⟩

theorem decCheck_length (m : Memory) (p : Pending) (h : p.length = 0 ∨ p.length % 16 ≠ 0) :
    decCheck m p = some .cipherLenWrong := if_pos h

theorem Memory.inBounds_eq_false_iff (m : Memory) (off n : Nat) : m.inBounds off n = false ↔ m.size < off + n := by
  simp [Memory.inBounds]

/-- The bounds checks of both AES commands: one region out of bounds, source or destination, gives BOUNDS (R63). -/
theorem regionChecks_bounds (m : Memory) (src n dst k : Nat) (hout : m.size < src + n ∨ m.size < dst + k) :
    (if m.inBounds src n = false then some ErrCode.bounds
      else if m.inBounds dst k = false then some ErrCode.bounds else none) = some .bounds := by
  simp only [Memory.inBounds_eq_false_iff]
  split_ifs with hsrc hdst
  · rfl
  · rfl
  · exact absurd hout (not_or.2 ⟨hsrc, hdst⟩)

theorem encCheck_bounds (m : Memory) (pad : Bool) (p : Pending) (hlen : pad = true ∨ p.length % 16 = 0)
    (hout : m.size < p.srcOff + p.length ∨ m.size < p.dstOff + encOutLen pad p.length) :
    encCheck m pad p = some .bounds := by
  have hrule : ¬(pad = false ∧ p.length % 16 ≠ 0) := by
    rintro ⟨rfl, hne⟩
    simp [hne] at hlen
  exact (if_neg hrule).trans (regionChecks_bounds m _ _ _ _ hout)

theorem decCheck_bounds (m : Memory) (p : Pending) (hne : p.length ≠ 0) (hlen : p.length % 16 = 0)
    (hout : m.size < p.srcOff + p.length ∨ m.size < p.dstOff + p.length) : decCheck m p = some .bounds :=
  (if_neg (by simp [hne, hlen])).trans (regionChecks_bounds m _ _ _ _ hout)

/-- An AES command whose check fails sets OUTLEN to 0 and completes with the check's code. -/
theorem exec_aesCbcEnc_check_failed (s : State) (p : Pending) (pad : Bool) (e : ErrCode) (hp : s.pend = some p)
    (hc : encCheck s.buf pad p = some e) :
    exec (.aesCbcEnc pad) s = .next ((s.setOutlen 0).complete (some e)) := by
  simp only [exec, execAesCbcEnc, withCommand_pending s p _ hp, hc]

theorem exec_aesCbcDec_check_failed (s : State) (p : Pending) (pad : Bool) (e : ErrCode) (hp : s.pend = some p)
    (hc : decCheck s.buf p = some e) :
    exec (.aesCbcDec pad) s = .next ((s.setOutlen 0).complete (some e)) := by
  simp only [exec, execAesCbcDec, withCommand_pending s p _ hp, hc]

/-- Settles O39. -/
theorem aesChecksInOrder : Obligations.AesChecksInOrder := by
  intro s p hp fails
  have hfails (i : Instr) (e : ErrCode) (h : exec i s = .next ((s.setOutlen 0).complete (some e))) : fails i e :=
    ⟨_, h, ⟨rfl, rfl, rfl⟩, (frame_setOutlen s 0).complete _, rfl⟩
  refine ⟨fun hlen => ?_, fun pad hlen => ?_, fun pad hlen hout => ?_, fun pad hne hlen hout => ?_⟩
  · exact hfails _ _ (exec_aesCbcEnc_check_failed s p false _ hp (encCheck_length _ p hlen))
  · exact hfails _ _ (exec_aesCbcDec_check_failed s p pad _ hp (decCheck_length _ p hlen))
  · exact hfails _ _ (exec_aesCbcEnc_check_failed s p pad _ hp (encCheck_bounds _ pad p hlen hout))
  · exact hfails _ _ (exec_aesCbcDec_check_failed s p pad _ hp (decCheck_bounds _ p hne hlen hout))

/-! ### Every step answers (R68) -/

/-- Settles O42, by the turn that is next. -/
theorem stepAlwaysAnswers : Obligations.StepAlwaysAnswers := by
  intro s
  refine ⟨?_, step_bus s, step_presetn s⟩
  cases hsched : s.schedule with
  | nil =>
    rw [step_idle s hsched]
    exact engineTurn_answers s
  | cons turn rest =>
    cases turn with
    | engine =>
      rw [step_engine s rest hsched]
      exact engineTurn_answers _
    | bus x => exact ⟨_, step_bus s x rest hsched⟩
    | presetn level => exact ⟨_, step_presetn s level rest hsched⟩

/-! ### Every pending command ends (R61, R68) -/

/-- From `s` the machine reaches a state with BUSY = 0 within `n` steps. -/
def IdleWithin (n : Nat) (s : State) : Prop :=
  ∃ k t, k ≤ n ∧ Sys2Proof.core.run k s = .next t ∧ t.busy = false

theorem idleWithin_of_idle (n : Nat) (s : State) (h : s.busy = false) : IdleWithin n s :=
  ⟨0, s, n.zero_le, rfl, h⟩

theorem idleWithin_succ (n : Nat) (s t : State) (hstep : step s = .next t) (h : IdleWithin n t) :
    IdleWithin (n + 1) s := by
  obtain ⟨k, u, hk, hrun, hu⟩ := h
  exact ⟨k + 1, u, Nat.succ_le_succ hk, (run_succ k s t hstep).trans hrun, hu⟩

/-- The engine's turn leaves BUSY = 0 behind, with a command pending or not. -/
theorem idleWithin_engineTurn (n : Nat) (s : State) (rest : List Turn) (hpin : s.presetn = true)
    (hsched : s.schedule = .engine :: rest ∨ (s.schedule = [] ∧ rest = [])) : IdleWithin (n + 1) s := by
  cases hp : s.pend with
  | none => exact idleWithin_of_idle _ s (s.busy_false_iff.2 hp)
  | some p =>
    obtain ⟨t, ht, hidle⟩ := engineTurn_completes { s with schedule := rest } p hpin hp
    exact idleWithin_succ n s t ((step_of_engine_next s rest hsched).trans ht)
      (idleWithin_of_idle n t (t.busy_false_iff.2 hidle))

/-- A turn of the pin changes nothing, or it ends the pending command (R160). -/
theorem State.drivePresetn_same_or_idle (s : State) (level : Bool) :
    s.drivePresetn level = s ∨ (s.drivePresetn level).busy = false := by
  obtain ⟨-, -, h⟩ | ⟨-, h⟩ := s.drivePresetn_cases level <;> rw [h]
  · exact .inl rfl
  · exact .inr rfl

/-- Whatever turns wait, the machine is idle once they are used up and the engine has had one more. -/
theorem idleWithin_schedule (turns : List Turn) (s : State) (hpin : s.presetn = true) (hsched : s.schedule = turns) :
    IdleWithin (turns.length + 1) s := by
  induction turns generalizing s with
  | nil => exact idleWithin_engineTurn _ s [] hpin (.inr ⟨hsched, rfl⟩)
  | cons turn rest ih =>
    cases turn with
    | engine => exact idleWithin_engineTurn _ s rest hpin (.inl hsched)
    | bus x =>
      obtain ⟨hpin', hsched', -⟩ := State.transfer_keeps { s with schedule := rest } x
      exact idleWithin_succ _ s _ (step_bus s x rest hsched) (ih _ (hpin'.trans hpin) hsched')
    | presetn level =>
      refine idleWithin_succ _ s _ (step_presetn s level rest hsched) ?_
      obtain h | h := State.drivePresetn_same_or_idle { s with schedule := rest } level
      · rw [h]
        exact ih { s with schedule := rest } hpin rfl
      · exact idleWithin_of_idle _ _ h

/-- Settles O47, by induction on the waiting turns. -/
theorem pendingCommandEnds : Obligations.PendingCommandEnds := fun s hpin _ =>
  idleWithin_schedule s.schedule s hpin rfl

/-! ### NOP (R65) -/

theorem exec_nop (s : State) (p : Pending) (hp : s.pend = some p) : exec .nop s = .next (s.complete none) :=
  withCommand_pending s p _ hp

/-- NOP has one word: no other word with its opcode decodes (R53, R65). -/
theorem decode_error_of_opcode_zero (w : Word) (hop : w.extractLsb' 0 8 = 0) (hw : w ≠ 0) :
    ∃ e, decode w = .error e := by
  cases hd : decode w with
  | error e => exact ⟨e, rfl⟩
  | ok i =>
    have hrow := ((decode_eq_ok_iff w i).1 hd).1
    rw [hop] at hrow
    have hnop : Instr.nop = i := Option.some.inj hrow
    exact absurd ((decode_eq_ok_iff_eq_encode w i).1 hd) (hnop ▸ hw)

/-- A read of STATUS changes nothing, busy or not (R39). -/
theorem State.transfer_rd_status (s : State) (hpin : s.presetn = true) :
    s.transfer (rd 0x008) = s.answered (.read s.statusWord false) := by
  change s.transfer (.read 8#13 0) = _
  rw [s.transfer_read 8#13 0 hpin, s.readTransfer_contents 8#13 rfl (by simp [Target.engineOwned])]
  rfl

/-- `s` with these turns waiting and this answer recorded. -/
def State.withTurns (s : State) (turns : List Turn) (resp : Option BusResponse) : State :=
  { s with schedule := turns, resp := resp }

theorem step_rd_status (s : State) (rest : List Turn) (hpin : s.presetn = true)
    (hsched : s.schedule = .bus (rd 0x008) :: rest) :
    step s = .next (s.withTurns rest (some (.read s.statusWord false))) :=
  (step_bus s _ rest hsched).trans (congrArg _ (State.transfer_rd_status { s with schedule := rest } hpin))

/-- A run over reads of STATUS reaches the turns after them with only the recorded answer changed. -/
theorem run_rd_status (n k : Nat) (s : State) (turns : List Turn) (hpin : s.presetn = true)
    (hsched : s.schedule = List.replicate n (.bus (rd 0x008)) ++ turns) :
    ∃ r, Sys2Proof.core.run (n + k) s = Sys2Proof.core.run k (s.withTurns turns r) := by
  induction n generalizing s with
  | zero =>
    refine ⟨s.resp, ?_⟩
    rw [Nat.zero_add, ← show s.schedule = turns from hsched]
    rfl
  | succ n ih =>
    rw [List.replicate_succ, List.cons_append] at hsched
    have hstep := step_rd_status s _ hpin hsched
    obtain ⟨r, hrun⟩ := ih (s.withTurns (List.replicate n (.bus (rd 0x008)) ++ turns) _) hpin rfl
    exact ⟨r, (congrArg (Sys2Proof.core.run · s) (Nat.add_right_comm n 1 k)).trans
      ((run_succ (n + k) s _ hstep).trans hrun)⟩

/-- STATUS right after a completion without error (R65, R130). -/
theorem statusWord_complete_none (s : State) (h : s.wbusy = false) : (s.complete none).statusWord = 0x00000002 := by
  simp only [State.statusWord, State.busy, State.errFlag, State.errcode, State.complete_pend, State.complete_done,
    State.complete_err, State.complete_wbusy, h]
  rfl

/-- The engine's turn on a pending NOP, and two reads of STATUS after it: the last one answers 0x00000002. -/
theorem run_nop_completion (s : State) (p : Pending) (hpin : s.presetn = true) (hp : s.pend = some p)
    (hword : p.word = encode .nop) (hwbusy : s.wbusy = false)
    (hsched : s.schedule = [.engine, .bus (rd 0x008), .bus (rd 0x008)]) :
    ∃ t, Sys2Proof.core.run 3 s = .next t ∧ t.resp = some (.read 0x00000002 false) := by
  have hd : decode p.word = .ok .nop := hword ▸ decode_encode .nop
  have hdone : step s = .next ((s.withTurns [.bus (rd 0x008), .bus (rd 0x008)] s.resp).complete none) :=
    ((stepRunsDecodedCommand s p .nop hpin hp hd).2 _ hsched).trans (exec_nop (s.withTurns _ _) p hp)
  obtain ⟨r, hread⟩ := run_rd_status 1 1 ((s.withTurns [.bus (rd 0x008), .bus (rd 0x008)] s.resp).complete none)
    [.bus (rd 0x008)] hpin rfl
  have hlast := step_rd_status ((s.withTurns [.bus (rd 0x008)] r).complete none) [] hpin rfl
  rw [statusWord_complete_none (s.withTurns _ r) hwbusy] at hlast
  exact ⟨_, ((run_succ 2 s _ hdone).trans hread).trans (run_succ 0 _ _ hlast), rfl⟩

/-- `cmd NOP; poll; rd STATUS` on an idle machine reads 0x00000002 if WBUSY = 0, however many reads of the poll find the
engine busy. -/
theorem run_nop_poll_rd_status (n : Nat) (s : State) (hpin : s.presetn = true) (hb : s.busy = false)
    (hwbusy : s.wbusy = false) (hsched : s.schedule = .bus (cmdLine .nop) :: poll n ++ [.bus (rd 0x008)]) :
    ∃ t, Sys2Proof.core.run (n + 4) s = .next t ∧ t.resp = some (.read 0x00000002 false) := by
  have hissue : step s = .next ((s.issue 0).withTurns (poll n ++ [.bus (rd 0x008)]) (some (.wrote false))) :=
    (step_bus s _ _ hsched).trans (congrArg _ (State.transfer_cmd_idle { s with schedule := _ } 0 0 hpin hb))
  obtain ⟨r, hpoll⟩ := run_rd_status n 3 ((s.issue 0).withTurns (poll n ++ [Turn.bus (rd 0x008)]) _)
    [.engine, .bus (rd 0x008), .bus (rd 0x008)] hpin (List.append_assoc _ _ _)
  obtain ⟨t, hrun, ht⟩ := run_nop_completion ((s.issue 0).withTurns _ r) ⟨0, s.src, s.dst, s.len⟩ hpin rfl rfl
    hwbusy rfl
  exact ⟨t, ((run_succ (n + 3) s _ hissue).trans hpoll).trans hrun, ht⟩

/-- Settles O25. -/
theorem nopOnlyCompletes : Obligations.NopOnlyCompletes := by
  refine ⟨fun s p hp => ?_, rfl, fun s p rest hpin hp hsched hop hw => ?_, fun s hpin hb => ?_, fun n => ?_⟩
  · exact ⟨_, exec_nop s p hp, ⟨rfl, rfl, rfl⟩, frame_complete s none⟩
  · obtain ⟨e, he⟩ := decode_error_of_opcode_zero p.word hop hw
    exact (step_of_engine_next s rest hsched).trans (engineTurn_error { s with schedule := rest } p e hpin hp he)
  · exact s.transfer_cmd_busy 0 0 hpin hb
  · exact run_nop_poll_rd_status n _ rfl rfl rfl rfl

end Sys2Proof.Machine


/-! SUPPORT. The proofs of the family `41_bit_transform.md`: the bits of gray8 and brev8, the laws of R75, and the XLAT
register. -/

namespace Sys2Proof.Machine

/-! ### The transforms, bit by bit (R71, R72) -/

/-- Above the top bit of a byte there is nothing to XOR: `getLsbD` reads false there. -/
@[simp] theorem getElem_gray8 (x : Byte) (i : Nat) (h : i < 8) : (gray8 x)[i] = (x[i] ^^ x.getLsbD (i + 1)) := by
  simp [gray8, Nat.add_comm]

@[simp] theorem getElem_brev8 (x : Byte) (i : Nat) (h : i < 8) : (brev8 x)[i] = x[7 - i] := by
  rw [← BitVec.getLsbD_eq_getElem h]
  simp only [brev8, BitVec.getLsbD_append, BitVec.getLsbD_ofBool]
  interval_cases i <;> simp

/-! ### Laws of parity8 and brev8 (R75) -/

@[simp] theorem brev8_brev8 (x : Byte) : brev8 (brev8 x) = x := by
  ext i hi
  simp only [getElem_brev8]
  congr 1
  omega

theorem brev8_not (x : Byte) : brev8 (~~~x) = ~~~(brev8 x) := by
  ext i hi
  simp only [getElem_brev8, BitVec.getElem_not]

/-- What `ac_rfl` needs to reorder an XOR of bits. -/
theorem xor_commutative : Std.Commutative Bool.xor := ⟨Bool.xor_comm⟩

theorem parity8_brev8 (x : Byte) : parity8 (brev8 x) = parity8 x := by
  simp only [parity8, getElem_brev8, Nat.reduceSub]
  have := xor_commutative
  ac_rfl

/-- Complementing all eight bits leaves the parity, as eight is even. -/
theorem parity8_not (x : Byte) : parity8 (~~~x) = parity8 x := by
  simp [parity8]

theorem parity8_xor (x y : Byte) : parity8 (x ^^^ y) = (parity8 x ^^ parity8 y) := by
  simp only [parity8, BitVec.getElem_xor]
  have := xor_commutative
  ac_rfl

/-- A right shift by one loses the lowest bit, and with it that bit's part of the parity. -/
theorem parity8_shiftRight_one (x : Byte) : parity8 (x >>> 1) = (parity8 x ^^ x[0]) := by
  simp [parity8]

theorem parity8_gray8 (x : Byte) : parity8 (gray8 x) = x[0] := by
  rw [gray8, parity8_xor, parity8_shiftRight_one, ← Bool.xor_assoc, Bool.xor_self, Bool.false_xor]

/-! ### Neighbours have neighbouring Gray codes (R75) -/

theorem gray8_xor (x y : Byte) : gray8 (x ^^^ y) = gray8 x ^^^ gray8 y := by
  simp only [gray8, BitVec.ushiftRight_xor_distrib]
  ac_rfl

theorem exists_lowest_clear_bit (x : Byte) (h : x ≠ 0xFF) :
    ∃ k, k < 8 ∧ x.getLsbD k = false ∧ ∀ j < k, x.getLsbD j = true := by
  have hclear : ∃ k, k < 8 ∧ x.getLsbD k = false := by
    by_contra hall
    push Not at hall
    refine h (BitVec.eq_of_getLsbD_eq fun i hi => ?_)
    rw [show (0xFF : Byte) = BitVec.allOnes 8 from rfl, BitVec.getLsbD_allOnes, decide_eq_true hi]
    exact Bool.eq_true_of_not_eq_false (hall i hi)
  refine ⟨Nat.find hclear, (Nat.find_spec hclear).1, (Nat.find_spec hclear).2, fun j hj => ?_⟩
  have hlt : j < 8 := hj.trans (Nat.find_spec hclear).1
  exact Bool.eq_true_of_not_eq_false fun hf => Nat.find_min hclear hj ⟨hlt, hf⟩

/-- Adding 1 flips bit `i` exactly when every bit below it is set. -/
theorem getElem_xor_add_one (x : Byte) (i : Nat) (hi : i < 8) :
    (x ^^^ (x + 1))[i] = decide (∀ j < i, x.getLsbD j = true) := by
  have hneg : x + 1 = -(~~~x) := by rw [BitVec.neg_eq_not_add, BitVec.not_not]; rfl
  have hcarry : (∃ j < i, (~~~x).getLsbD j = true) ↔ ¬∀ j < i, x.getLsbD j = true := by
    push Not
    refine exists_congr fun j => and_congr_right fun hj => ?_
    simp [show j < 8 by omega]
  rw [BitVec.getElem_xor, hneg, BitVec.getElem_neg, BitVec.getElem_not, decide_eq_decide.2 hcarry, decide_not]
  cases x[i] <;> simp

/-- Adding 1 flips the lowest clear bit and the bits below it. -/
theorem getLsbD_xor_add_one_of_lowest_clear (x : Byte) (k : Nat) (hk : k < 8) (hclear : x.getLsbD k = false)
    (hset : ∀ j < k, x.getLsbD j = true) (i : Nat) : (x ^^^ (x + 1)).getLsbD i = decide (i ≤ k) := by
  by_cases hi : i < 8
  · rw [BitVec.getLsbD_eq_getElem hi, getElem_xor_add_one x i hi, decide_eq_decide]
    refine ⟨fun h => ?_, fun hik j hj => hset j (hj.trans_le hik)⟩
    by_contra hki
    rw [h k (by omega)] at hclear
    cases hclear
  · rw [BitVec.getLsbD_of_ge _ _ (by omega), decide_eq_false (by omega)]

theorem gray8_xor_gray8_succ (x : Byte) (h : x ≠ 0xFF) : ∃ k, k < 8 ∧ gray8 x ^^^ gray8 (x + 1) = 1 <<< k := by
  obtain ⟨k, hk, hclear, hset⟩ := exists_lowest_clear_bit x h
  have hflipped := getLsbD_xor_add_one_of_lowest_clear x k hk hclear hset
  refine ⟨k, hk, ?_⟩
  calc gray8 x ^^^ gray8 (x + 1) = gray8 (x ^^^ (x + 1)) := (gray8_xor x (x + 1)).symm
    _ = BitVec.twoPow 8 k := by
      ext i hi
      rw [getElem_gray8, ← BitVec.getLsbD_eq_getElem hi, hflipped, hflipped, BitVec.getElem_twoPow]
      by_cases hik : i = k
      · simp [hik]
      · simp [hik, show i + 1 ≤ k ↔ i ≤ k by omega]
    _ = 1 <<< k := BitVec.twoPow_eq 8 k

/-! ### The inverse of gray8 (R75) -/

/-- The inverse that R75 gives: the XOR of the seven right shifts of the code with the code. -/
def ungray8 (g : Byte) : Byte :=
  g ^^^ g >>> 1 ^^^ g >>> 2 ^^^ g >>> 3 ^^^ g >>> 4 ^^^ g >>> 5 ^^^ g >>> 6 ^^^ g >>> 7

theorem ungray8_xor (x y : Byte) : ungray8 (x ^^^ y) = ungray8 x ^^^ ungray8 y := by
  simp only [ungray8, BitVec.ushiftRight_xor_distrib]
  ac_rfl

theorem ungray8_shiftRight_one (g : Byte) : ungray8 (g >>> 1) = ungray8 g >>> 1 := by
  simp only [ungray8, BitVec.ushiftRight_xor_distrib, ← BitVec.shiftRight_add, Nat.add_comm]

/-- Shifting the inverse once drops its first term: the terms of R75's sum telescope. -/
theorem ungray8_eq_xor_shiftRight_one (g : Byte) : ungray8 g = g ^^^ ungray8 g >>> 1 := by
  have hout : g >>> 8 = 0#8 := BitVec.ushiftRight_eq_zero le_rfl
  simp [ungray8, BitVec.ushiftRight_xor_distrib, ← BitVec.shiftRight_add, hout, BitVec.xor_assoc]

@[simp] theorem gray8_ungray8 (g : Byte) : gray8 (ungray8 g) = g := by
  calc gray8 (ungray8 g) = (g ^^^ ungray8 g >>> 1) ^^^ ungray8 g >>> 1 :=
        congrArg (· ^^^ ungray8 g >>> 1) (ungray8_eq_xor_shiftRight_one g)
    _ = g := by simp

/-- Both functions are XORs of shifts, so they commute. -/
@[simp] theorem ungray8_gray8 (x : Byte) : ungray8 (gray8 x) = x := by
  calc ungray8 (gray8 x) = ungray8 x ^^^ ungray8 (x >>> 1) := ungray8_xor x (x >>> 1)
    _ = gray8 (ungray8 x) := by rw [ungray8_shiftRight_one, gray8]
    _ = x := gray8_ungray8 x

/-- Settles O48. -/
theorem bitTransformLaws : Obligations.BitTransformLaws := by
  refine ⟨fun x => rfl, fun x => ⟨?_, fun i hi => ?_⟩, fun x i hi => ?_,
    fun x => ⟨brev8_brev8 x, brev8_not x, parity8_brev8 x, parity8_not x, parity8_gray8 x⟩,
    gray8_xor_gray8_succ, fun g => ⟨gray8_ungray8 g, ?_⟩⟩
  · rw [getElem_gray8]
    simp
  · rw [getElem_gray8, BitVec.getLsbD_eq_getElem]
  · simp only [getElem_brev8, show 7 - (7 - i) = i by omega]
  · rintro x rfl
    exact (ungray8_gray8 x).symm

/-! ### The XLAT register (R23, R74) -/

theorem bitWord_shiftLeft_24 (b : Bool) : bitWord b <<< 24 = ((if b then 0x01000000 else 0 : Nat) : Word) := by
  cases b <;> rfl

/-- A write with all strobes while BUSY = 0 takes the low byte (R74). -/
theorem State.transfer_xlat_idle (s : State) (d : Word) (prot : BitVec 3) (hpin : s.presetn = true)
    (hb : s.busy = false) :
    s.transfer (.write 0x030 d 0xF prot) = ({ s with xlatX := lane d 0 } : State).answered (.wrote false) :=
  s.transfer_write_idle 0x030 d 0xF prot hpin hb rfl (fun _ => rfl) (by decide) (fun h => absurd h.1 (by decide))

/-- A write with all strobes while BUSY = 1 only sets WBUSY (R38). -/
theorem State.transfer_xlat_busy (s : State) (d : Word) (prot : BitVec 3) (hpin : s.presetn = true)
    (hb : s.busy = true) :
    s.transfer (.write 0x030 d 0xF prot) = { s with wbusy := true, resp := some (.wrote false) } := by
  refine busyDropsWrites s 0x030 d 0xF prot hpin hb rfl (by decide) ?_
  rintro ⟨d', prot', h, -⟩
  exact absurd (Transfer.write.inj h).1 (by decide)

/-- A read of XLAT answers its contents, busy or not: no command owns the register (R39, R74). -/
theorem State.transfer_read_xlat (s : State) (prot : BitVec 3) (hpin : s.presetn = true) :
    s.transfer (.read 0x030 prot) = s.answered (.read (xlatWord s.xlatX) false) := by
  change s.transfer (.read 48#13 prot) = _
  rw [s.transfer_read 48#13 prot hpin, s.readTransfer_contents 48#13 rfl (by simp [Target.engineOwned])]
  rfl

/-- While BUSY = 0, a read right after a write answers the three functions of the byte written (R74). -/
theorem State.transfer_wr_rd_xlat (s : State) (d : Word) (hpin : s.presetn = true) (hb : s.busy = false) :
    ((s.transfer (wr 0x030 d)).transfer (rd 0x030)).resp = some (.read (xlatWord (lane d 0)) false) := by
  have hwrite : s.transfer (wr 0x030 d) = _ := s.transfer_xlat_idle d 0 hpin hb
  rw [hwrite]
  exact congrArg State.resp
    (State.transfer_read_xlat (({ s with xlatX := lane d 0 } : State).answered (.wrote false)) 0 hpin)

/-- Settles O18. -/
theorem xlatLooksUpTables : Obligations.XlatLooksUpTables := by
  intro s d prot hpin
  refine ⟨s.transfer_xlat_idle d prot hpin, s.transfer_xlat_busy d prot hpin, fun strb hstrb => ?_, ?_, fun hb => ?_⟩
  · exact s.transfer_write_busError _ d strb prot hpin
      ((s.busError_write_iff _ d strb prot).2 (.inr ⟨by decide, hstrb⟩))
  · rw [s.transfer_read_xlat prot hpin, xlatWord, bitWord_shiftLeft_24]
    rfl
  · rw [s.transfer_wr_rd_xlat 0xB4 hpin hb, show xlatWord (lane 0xB4 0) = 0x002DEEB4 by decide]

end Sys2Proof.Machine

/-! SUPPORT. The proofs of the family `42_checksum.md`: the CRC-8 register and its laws, the LRC, the bits of the G check
code, and what the six checksum commands write and report. -/

namespace Sys2Proof.Machine

/-! ### The CRC register (R80) -/

theorem brev8_xor (x y : Byte) : brev8 (x ^^^ y) = brev8 x ^^^ brev8 y := by
  ext i hi
  simp only [getElem_brev8, BitVec.getElem_xor]

/-- One shift, bit by bit: the bit below moves up, and POLY comes in where bit 7 goes out. -/
theorem getElem_crcShift (poly r : Byte) (i : Nat) (hi : i < 8) :
    (crcShift poly r)[i] = ((!decide (i < 1) && r[i - 1]) ^^ (r[7] && poly[i])) := by
  unfold crcShift
  cases r[7] <;> simp

theorem crcShift_xor (poly x y : Byte) : crcShift poly (x ^^^ y) = crcShift poly x ^^^ crcShift poly y := by
  ext i hi
  simp only [getElem_crcShift, BitVec.getElem_xor, Bool.and_xor_distrib_left, Bool.and_xor_distrib_right]
  have := xor_commutative
  ac_rfl

/-- With POLY bit 0 set, bit 0 of the result is the bit that went out, so nothing is lost. -/
theorem crcShift_injective (poly : Byte) (hpoly : poly[0] = true) : Function.Injective (crcShift poly) := by
  intro x y h
  have hbit (i : Nat) (hi : i < 8) : (crcShift poly x)[i] = (crcShift poly y)[i] := by rw [h]
  simp only [getElem_crcShift] at hbit
  have htop : x[7] = y[7] := by simpa [hpoly] using hbit 0 (by decide)
  ext i hi
  by_cases h7 : i = 7
  · subst h7
    exact htop
  · simpa [htop] using hbit (i + 1) (by omega)

theorem crcShifts_eq_iterate (poly : Byte) (n : Nat) (r : Byte) : crcShifts poly n r = (crcShift poly)^[n] r := by
  induction n generalizing r with
  | zero => rfl
  | succ n ih => exact ih (crcShift poly r)

theorem crcShifts_xor (poly : Byte) (n : Nat) (x y : Byte) :
    crcShifts poly n (x ^^^ y) = crcShifts poly n x ^^^ crcShifts poly n y := by
  induction n generalizing x y with
  | zero => rfl
  | succ n ih => rw [crcShifts, crcShift_xor, ih, crcShifts, crcShifts]

theorem crcShifts_injective (poly : Byte) (hpoly : poly[0] = true) (n : Nat) :
    Function.Injective (crcShifts poly n) := by
  rw [funext (crcShifts_eq_iterate poly n)]
  exact (crcShift_injective poly hpoly).iterate n

/-! ### One byte and a byte string into the register (R80) -/

/-- The order in which a data byte's bits enter the register (REFIN, R80). -/
def CrcCfg.reflectIn (cfg : CrcCfg) (b : Byte) : Byte := if cfg.refin then brev8 b else b

theorem crcByte_eq (cfg : CrcCfg) (r b : Byte) : crcByte cfg r b = crcShifts cfg.poly 8 (r ^^^ cfg.reflectIn b) := rfl

theorem CrcCfg.reflectIn_xor (cfg : CrcCfg) (x y : Byte) :
    cfg.reflectIn (x ^^^ y) = cfg.reflectIn x ^^^ cfg.reflectIn y := by
  unfold CrcCfg.reflectIn
  split_ifs
  · exact brev8_xor x y
  · rfl

theorem CrcCfg.reflectIn_injective (cfg : CrcCfg) : Function.Injective cfg.reflectIn := by
  unfold CrcCfg.reflectIn
  split_ifs
  · exact Function.LeftInverse.injective brev8_brev8
  · exact Function.injective_id

theorem crcByte_xor (cfg : CrcCfg) (q r a b : Byte) :
    crcByte cfg (q ^^^ r) (a ^^^ b) = crcByte cfg q a ^^^ crcByte cfg r b := by
  simp only [crcByte_eq, ← crcShifts_xor, cfg.reflectIn_xor]
  congr 1
  ac_rfl

/-- The register after a byte string is linear in the register before it and the string together. -/
theorem foldl_crcByte_xor (cfg : CrcCfg) (a b : List Byte) (h : a.length = b.length) (q r : Byte) :
    (List.zipWith (· ^^^ ·) a b).foldl (crcByte cfg) (q ^^^ r) =
      a.foldl (crcByte cfg) q ^^^ b.foldl (crcByte cfg) r := by
  induction a generalizing b q r with
  | nil =>
    obtain rfl := List.length_eq_zero_iff.1 h.symm
    rfl
  | cons x a ih =>
    cases b with
    | nil => cases h
    | cons y b =>
      simp only [List.zipWith_cons_cons, List.foldl_cons, crcByte_xor]
      exact ih b (Nat.succ.inj h) _ _

theorem crcByte_injective_register (cfg : CrcCfg) (hpoly : cfg.poly[0] = true) (b : Byte) :
    Function.Injective (crcByte cfg · b) := fun _ _ h =>
  BitVec.xor_left_inj _ |>.1 (crcShifts_injective cfg.poly hpoly 8 h)

theorem crcByte_injective_byte (cfg : CrcCfg) (hpoly : cfg.poly[0] = true) (r : Byte) :
    Function.Injective (crcByte cfg r) := fun _ _ h =>
  cfg.reflectIn_injective (BitVec.xor_right_inj _ |>.1 (crcShifts_injective cfg.poly hpoly 8 h))

theorem foldl_crcByte_injective (cfg : CrcCfg) (hpoly : cfg.poly[0] = true) (data : List Byte) :
    Function.Injective (data.foldl (crcByte cfg)) := by
  induction data with
  | nil => exact Function.injective_id
  | cons b data ih => exact ih.comp (crcByte_injective_register cfg hpoly b)

/-- A changed byte reaches the register at its place, and no later byte brings the two registers together. -/
theorem foldl_crcByte_set (cfg : CrcCfg) (hpoly : cfg.poly[0] = true) (data : List Byte) (i : Nat)
    (hi : i < data.length) (x r : Byte)
    (h : (data.set i x).foldl (crcByte cfg) r = data.foldl (crcByte cfg) r) : x = data[i] := by
  induction data generalizing i r with
  | nil => cases hi
  | cons b data ih =>
    cases i with
    | zero => exact crcByte_injective_byte cfg hpoly r (foldl_crcByte_injective cfg hpoly data h)
    | succ i => exact ih i (Nat.lt_of_succ_lt_succ hi) (crcByte cfg r b) h

/-! ### The CRC-8 (R80, R89) -/

/-- The result made from the register (REFOUT and XOROUT, R80). -/
def CrcCfg.result (cfg : CrcCfg) (r : Byte) : Byte := (if cfg.refout then brev8 r else r) ^^^ cfg.xorout

/-- The register that a result was made from. -/
def CrcCfg.register (cfg : CrcCfg) (c : Byte) : Byte :=
  if cfg.refout then brev8 (c ^^^ cfg.xorout) else c ^^^ cfg.xorout

theorem crc8_eq (cfg : CrcCfg) (data : List Byte) :
    crc8 cfg data = cfg.result (data.foldl (crcByte cfg) cfg.init) := rfl

@[simp] theorem CrcCfg.register_result (cfg : CrcCfg) (r : Byte) : cfg.register (cfg.result r) = r := by
  unfold CrcCfg.register CrcCfg.result
  split_ifs <;> simp

theorem CrcCfg.result_injective (cfg : CrcCfg) : Function.Injective cfg.result :=
  Function.LeftInverse.injective cfg.register_result

/-- XOROUT cancels in the XOR of two results. -/
theorem CrcCfg.result_xor_result (cfg : CrcCfg) (q r : Byte) :
    cfg.result q ^^^ cfg.result r = if cfg.refout then brev8 (q ^^^ r) else q ^^^ r := by
  have hcancel (x y : Byte) : (x ^^^ cfg.xorout) ^^^ (y ^^^ cfg.xorout) = x ^^^ y := by
    rw [BitVec.xor_comm y, BitVec.xor_assoc, ← BitVec.xor_assoc cfg.xorout, BitVec.xor_self, BitVec.zero_xor]
  unfold CrcCfg.result
  split_ifs
  · rw [hcancel, brev8_xor]
  · exact hcancel q r

theorem crc8_append_singleton (cfg : CrcCfg) (data : List Byte) (b : Byte) :
    crc8 cfg (data ++ [b]) = cfg.result (crcByte cfg (cfg.register (crc8 cfg data)) b) := by
  simp only [crc8_eq, List.foldl_append, List.foldl_cons, List.foldl_nil, cfg.register_result]

theorem zipWith_xor_replicate_zero (data : List Byte) :
    List.zipWith (· ^^^ ·) data (List.replicate data.length 0) = data := by
  induction data with
  | nil => rfl
  | cons b data ih => simpa [List.replicate_succ] using ih

/-- Both sides are the register of `a XOR b` started from 0: INIT cancels in each. -/
theorem crc8_xor_crc8 (cfg : CrcCfg) (a b : List Byte) (h : a.length = b.length) :
    crc8 cfg a ^^^ crc8 cfg b =
      crc8 cfg (List.zipWith (· ^^^ ·) a b) ^^^ crc8 cfg (List.replicate a.length 0) := by
  have hlen : (List.zipWith (· ^^^ ·) a b).length = a.length := by simp [h]
  have hzero := foldl_crcByte_xor cfg (List.zipWith (· ^^^ ·) a b) (List.replicate a.length 0) (by simp [hlen])
    cfg.init cfg.init
  rw [← hlen, zipWith_xor_replicate_zero, hlen] at hzero
  simp only [crc8_eq, cfg.result_xor_result, ← hzero, foldl_crcByte_xor cfg a b h]

/-- Settles O50: the step of one byte reads the register back from the result; under the reset configuration the two
are the same byte. -/
theorem crc8IsAffine : Obligations.Crc8IsAffine := by
  refine ⟨fun cfg => ⟨rfl, fun data b => ?_⟩, crc8_xor_crc8, fun data b => ?_⟩
  · rw [crc8_append_singleton, crcByte_eq, crcShifts_eq_iterate]
    rfl
  · simp [crc8_eq, CrcCfg.result, CrcCfg.reset, crcByte]

/-! ### The LRC (R81) -/

theorem lrc_toNat (data : List Byte) : (lrc data).toNat = (256 - byteSum data % 256) % 256 := by
  simp [lrc]

theorem byteSum_cons (b : Byte) (data : List Byte) : byteSum (b :: data) = b.toNat + byteSum data := by
  simp [byteSum]

theorem lrc_cons (b : Byte) (data : List Byte) : lrc (b :: data) = lrc data - b := by
  apply BitVec.eq_of_toNat_eq
  rw [BitVec.toNat_sub, lrc_toNat, lrc_toNat, byteSum_cons]
  omega

/-- The LRC with a byte taken out fixes that byte. -/
theorem lrc_set (data : List Byte) (i : Nat) (hi : i < data.length) (x : Byte)
    (h : lrc (data.set i x) = lrc data) : x = data[i] := by
  induction data generalizing i with
  | nil => cases hi
  | cons b data ih =>
    cases i with
    | zero =>
      rw [List.set_cons_zero, lrc_cons, lrc_cons] at h
      exact BitVec.sub_right_inj _ |>.1 h
    | succ i =>
      rw [List.set_cons_succ, lrc_cons, lrc_cons] at h
      exact ih i (Nat.lt_of_succ_lt_succ hi) (BitVec.sub_left_inj _ |>.1 h)

/-- Settles O49. -/
theorem lrcCancelsByteSum : Obligations.LrcCancelsByteSum := by
  refine ⟨lrc_toNat, fun data => ?_, rfl⟩
  rw [lrc_toNat, byteSum]
  omega

/-! ### The G check code (R82) -/

/-- Check bit `i` of R82: bit 3 of byte `i` XOR bit 3 of the byte before it, `prev` standing before byte 0. -/
def checkBit (e : Vector Byte 16) (prev : Bool) (i : Nat) (h : i < 16) : Bool :=
  (if i = 0 then prev else e[i - 1][3]) ^^ e[i][3]

@[simp] theorem gcheckBits_length (prev : Bool) (data : List Byte) : (gcheckBits prev data).length = data.length := by
  induction data generalizing prev with
  | nil => rfl
  | cons b data ih => simp [gcheckBits, ih]

theorem getElem_gcheckBits (prev : Bool) (data : List Byte) (i : Nat) (h : i < data.length) :
    (gcheckBits prev data)[i]'(by simpa) =
      ((if i = 0 then prev else data[i - 1][3]) ^^ data[i][3]) := by
  induction data generalizing prev i with
  | nil => cases h
  | cons b data ih =>
    cases i with
    | zero => rfl
    | succ i =>
      refine (ih b[3] i (Nat.lt_of_succ_lt_succ h)).trans ?_
      cases i <;> rfl

theorem getLsbD_byteOfCheckBits_reverse (bits : List Bool) (k : Nat) (hk : k < 8) :
    (byteOfCheckBits bits.reverse).getLsbD k = bits.getD k false := by
  induction bits generalizing k with
  | nil => simp [byteOfCheckBits]
  | cons b bits ih =>
    rw [byteOfCheckBits, List.reverse_cons, List.foldl_append, ← byteOfCheckBits, List.foldl_cons, List.foldl_nil,
      BitVec.getLsbD_or, BitVec.getLsbD_shiftLeft]
    cases k with
    | zero => cases b <;> simp
    | succ k => cases b <;> simp [hk, ih k (by omega)]

/-- Check bit `j` of a window of eight goes to bit `7 - j` of its byte. -/
theorem getLsbD_byteOfCheckBits (bits : List Bool) (hlen : bits.length = 8) (j : Nat) (hj : j < 8) :
    (byteOfCheckBits bits).getLsbD (7 - j) = bits[j] := by
  have h := getLsbD_byteOfCheckBits_reverse bits.reverse (7 - j) (by omega)
  rw [List.reverse_reverse] at h
  rw [h, List.getD_eq_getElem _ _ (by simp; omega), List.getElem_reverse]
  congr 1
  omega

theorem getLsbD_gcheck_fst (e : Vector Byte 16) (prev : Bool) (j : Nat) (hj : j < 8) :
    (gcheck e prev).1.getLsbD (7 - j) = checkBit e prev j (by omega) := by
  rw [gcheck, getLsbD_byteOfCheckBits _ (by simp) j hj, List.getElem_take,
    getElem_gcheckBits prev _ j (by simp; omega)]
  rfl

theorem getLsbD_gcheck_snd (e : Vector Byte 16) (prev : Bool) (j : Nat) (hj : j < 8) :
    (gcheck e prev).2.getLsbD (7 - j) = checkBit e prev (j + 8) (by omega) := by
  rw [gcheck, getLsbD_byteOfCheckBits _ (by simp) j hj, List.getElem_drop]
  simp only [Nat.add_comm 8 j]
  rw [getElem_gcheckBits prev _ (j + 8) (by simp; omega)]
  rfl

theorem checkBit_xorBytes (a b : Vector Byte 16) (p q : Bool) (i : Nat) (h : i < 16) :
    checkBit (xorBytes a b) (p ^^ q) i h = (checkBit a p i h ^^ checkBit b q i h) := by
  have := xor_commutative
  simp only [checkBit, xorBytes, Vector.getElem_ofFn, Fin.getElem_fin, BitVec.getElem_xor]
  split_ifs <;> ac_rfl

/-- Two bytes are equal when their bits `7 - j` are, as the check code counts them. -/
theorem byte_eq_of_getLsbD_seven_sub (x y : Byte) (h : ∀ j < 8, x.getLsbD (7 - j) = y.getLsbD (7 - j)) : x = y := by
  refine BitVec.eq_of_getLsbD_eq fun i hi => ?_
  simpa [show 7 - (7 - i) = i by omega] using h (7 - i) (by omega)

/-- Settles O53: each bit of the code is an XOR of bits of its input. -/
theorem gcheckIsAffine : Obligations.GcheckIsAffine := fun a b p q =>
  Prod.ext
    (byte_eq_of_getLsbD_seven_sub _ _ fun j hj => by
      simp only [BitVec.getLsbD_xor, getLsbD_gcheck_fst _ _ j hj, checkBit_xorBytes])
    (byte_eq_of_getLsbD_seven_sub _ _ fun j hj => by
      simp only [BitVec.getLsbD_xor, getLsbD_gcheck_snd _ _ j hj, checkBit_xorBytes])

/-! ### The commands that only compute (R83 to R86) -/

theorem exec_crc8Ivenc (s : State) (p : Pending) (hp : s.pend = some p) :
    exec .crc8Ivenc s = .next ((s.setChkCrc (crc8 s.crccfg s.ivenc.toList)).complete none) :=
  withCommand_pending s p _ hp

theorem exec_crc8Buf_inBounds (s : State) (p : Pending) (hp : s.pend = some p)
    (hin : p.srcOff + p.length ≤ s.buf.size) :
    exec .crc8Buf s =
      .next ((s.setChkCrc (crc8 s.crccfg (s.buf.readBytes p.srcOff p.length))).complete none) := by
  refine (withCommand_pending s p _ hp).trans ?_
  rw [withSource_inBounds s p _ hin]

theorem exec_lrcBuf_inBounds (s : State) (p : Pending) (hp : s.pend = some p)
    (hin : p.srcOff + p.length ≤ s.buf.size) :
    exec .lrcBuf s = .next ((s.setChkLrc (lrc (s.buf.readBytes p.srcOff p.length))).complete none) := by
  refine (withCommand_pending s p _ hp).trans ?_
  rw [withSource_inBounds s p _ hin]

theorem exec_gchkIvenc (s : State) (p : Pending) (hp : s.pend = some p) :
    exec .gchkIvenc s = .next (s.withGcheck.complete none) :=
  withCommand_pending s p _ hp

/-- Settles O26. -/
theorem checksumResults : Obligations.ChecksumResults := by
  refine fun s p hp => ⟨?_, fun hin => ⟨?_, ?_⟩⟩
  · exact ⟨_, exec_crc8Ivenc s p hp, ⟨rfl, rfl, rfl⟩, (frame_setChkCrc s _).complete none, rfl⟩
  · exact ⟨_, exec_crc8Buf_inBounds s p hp hin, ⟨rfl, rfl, rfl⟩, (frame_setChkCrc s _).complete none, rfl⟩
  · exact ⟨_, exec_lrcBuf_inBounds s p hp hin, ⟨rfl, rfl, rfl⟩, (frame_setChkLrc s _).complete none, rfl⟩

/-- Settles O28. -/
theorem gchkIvencResult : Obligations.GchkIvencResult := by
  refine fun s p hp => ⟨_, exec_gchkIvenc s p hp, ⟨rfl, rfl, rfl⟩, (frame_withGcheck s).complete none, rfl, ?_,
    fun j hj => ?_, fun j hj => ?_⟩
  · exact getLsbD_gcheck_fst s.ivenc s.g1cfg.gprev0 0 (by decide)
  · have h := getLsbD_gcheck_fst s.ivenc s.g1cfg.gprev0 (j + 1) (by omega)
    rwa [show 7 - (j + 1) = 6 - j by omega] at h
  · exact getLsbD_gcheck_snd s.ivenc s.g1cfg.gprev0 j hj

/-! ### VERIFY_G0 (R87) -/

theorem exec_verifyG0 (s : State) (p : Pending) (hp : s.pend = some p) :
    exec .verifyG0 s = .next ((s.setChkCrc (crc8 s.crccfg s.ivenc.toList)).complete
      (if crc8 s.crccfg s.ivenc.toList ≠ s.chkref.crc then some .ivCheckError else none)) :=
  withCommand_pending s p _ hp

/-- Settles O29. -/
theorem verifyG0Outcome : Obligations.VerifyG0Outcome := by
  refine fun s p hp => ⟨fun hc => ?_, fun hc => ?_⟩
  · exact ⟨_, exec_verifyG0 s p hp, ⟨rfl, rfl, if_neg (not_not_intro hc)⟩, (frame_setChkCrc s _).complete _, rfl⟩
  · exact ⟨_, exec_verifyG0 s p hp, ⟨rfl, rfl, if_pos hc⟩, (frame_setChkCrc s _).complete _, rfl⟩

theorem crc8_eq_of_verifyG0_accepts (s t : State) (h : exec .verifyG0 s = .next t) (herr : t.err = none) :
    crc8 s.crccfg s.ivenc.toList = s.chkref.crc := by
  obtain ⟨p, -, rfl⟩ := withCommand_next s t _ h
  by_contra hc
  cases (if_pos hc).symm.trans herr

/-- With POLY bit 0 set, byte strings that differ in one byte have different CRCs. -/
theorem crc8_set_ne (cfg : CrcCfg) (hpoly : cfg.poly[0] = true) (data : List Byte) (i : Nat) (hi : i < data.length)
    (x : Byte) (hx : x ≠ data[i]) : crc8 cfg (data.set i x) ≠ crc8 cfg data := fun h =>
  hx (foldl_crcByte_set cfg hpoly data i hi x cfg.init (cfg.result_injective h))

/-- A byte XOR something other than 0 is another byte. -/
theorem xor_ne_self {x e : Byte} (he : e ≠ 0) : x ^^^ e ≠ x := fun h =>
  he ((BitVec.xor_right_inj x).1 (h.trans BitVec.xor_zero.symm))

/-- Settles O51: the changed IVENC has another CRC than the accepted one. -/
theorem verifyG0CatchesByteChange : Obligations.VerifyG0CatchesByteChange := by
  intro s t i hi e hpoly hexec herr he
  obtain ⟨p, hp, -⟩ := withCommand_next s t _ hexec
  have hmis : crc8 s.crccfg (s.ivenc.set i (s.ivenc[i] ^^^ e)).toList ≠ s.chkref.crc := by
    rw [Vector.toList_set, ← crc8_eq_of_verifyG0_accepts s t hexec herr]
    exact crc8_set_ne s.crccfg hpoly s.ivenc.toList i (by simpa using hi) _ (xor_ne_self he)
  obtain ⟨u, hu, hcode, -⟩ := (verifyG0Outcome (s.setIvenc (s.ivenc.set i (s.ivenc[i] ^^^ e))) p hp).2 hmis
  exact ⟨u, hu, hcode⟩

/-! ### VERIFY_G1 (R88) -/

/-- The three check bytes of IVENC are those of CHKREF. -/
def State.GchecksMatch (s : State) : Prop :=
  (gcheck s.ivenc s.g1cfg.gprev0).1 = s.chkref.g1 ∧ (gcheck s.ivenc s.g1cfg.gprev0).2 = s.chkref.g2 ∧
    lrc s.ivenc.toList = s.chkref.lrc

theorem exec_verifyG1_match (s : State) (p : Pending) (hp : s.pend = some p) (h : s.GchecksMatch) :
    exec .verifyG1 s = .next (s.withGcheck.complete none) := by
  obtain ⟨hg1, hg2, hlrc⟩ := h
  refine (withCommand_pending s p _ hp).trans ?_
  simp [State.withGcheck, hg1, hg2, hlrc]

theorem exec_verifyG1_mismatch (s : State) (p : Pending) (hp : s.pend = some p) (h : ¬s.GchecksMatch) :
    exec .verifyG1 s = .next (s.withGcheck.complete (some .ivCheckError)) := by
  refine (withCommand_pending s p _ hp).trans ?_
  congr 2
  dsimp only
  split_ifs with hg hlrc
  · rfl
  · rfl
  · rw [not_or, not_not, not_not] at hg
    exact absurd ⟨hg.1, hg.2, not_not.1 hlrc⟩ h

/-- Settles O30. -/
theorem verifyG1Outcome : Obligations.VerifyG1Outcome := by
  refine fun s p hp => ⟨fun h => ?_, fun h => ?_⟩
  · exact ⟨_, exec_verifyG1_match s p hp h, ⟨rfl, rfl, rfl⟩, (frame_withGcheck s).complete _, rfl, rfl, rfl⟩
  · exact ⟨_, exec_verifyG1_mismatch s p hp h, ⟨rfl, rfl, rfl⟩, (frame_withGcheck s).complete _, rfl, rfl, rfl⟩

theorem gchecksMatch_of_verifyG1_accepts (s t : State) (h : exec .verifyG1 s = .next t) (herr : t.err = none) :
    s.GchecksMatch := by
  obtain ⟨p, hp, -⟩ := withCommand_next s t _ h
  by_contra hc
  cases (exec_verifyG1_mismatch s p hp hc).symm.trans h
  cases herr

/-- Settles O52: the LRC alone tells the two IVENC apart. -/
theorem verifyG1CatchesByteChange : Obligations.VerifyG1CatchesByteChange := by
  intro s t i hi e hexec herr he
  obtain ⟨p, hp, -⟩ := withCommand_next s t _ hexec
  obtain ⟨-, -, hlrc⟩ := gchecksMatch_of_verifyG1_accepts s t hexec herr
  have hmis : ¬(s.setIvenc (s.ivenc.set i (s.ivenc[i] ^^^ e))).GchecksMatch := by
    rintro ⟨-, -, hlrc'⟩
    rw [State.setIvenc_ivenc, Vector.toList_set] at hlrc'
    exact xor_ne_self he (lrc_set s.ivenc.toList i (by simpa using hi) _ (hlrc'.trans hlrc.symm))
  exact ⟨_, exec_verifyG1_mismatch (s.setIvenc _) p hp hmis, rfl, rfl, rfl⟩

end Sys2Proof.Machine

/-! SUPPORT. The proofs of the family `43_md5.md`: compression of a byte string cut in two, the padding of a message,
streaming against one shot, and what the five MD5 commands write and report. -/

namespace Sys2Proof.Machine

/-! ### Compression of a byte string in two parts (R92) -/

theorem md5Blocks_add (n k : Nat) (c : Md5Chain) (x : List Byte) :
    md5Blocks (n + k) c x = md5Blocks k (md5Blocks n c x).1 (md5Blocks n c x).2 := by
  induction n generalizing c x with
  | zero => rw [Nat.zero_add]; rfl
  | succ n ih => rw [Nat.succ_add, md5Blocks, ih]; rfl

/-- Bytes after the `n` blocks stay uncompressed. -/
theorem md5Blocks_append (n : Nat) (c : Md5Chain) (x y : List Byte) (h : 64 * n ≤ x.length) :
    md5Blocks n c (x ++ y) = ((md5Blocks n c x).1, (md5Blocks n c x).2 ++ y) := by
  induction n generalizing c x with
  | zero => rfl
  | succ n ih =>
    simp only [md5Blocks, List.take_append_of_le_length (show 64 ≤ x.length by omega),
      List.drop_append_of_le_length (show 64 ≤ x.length by omega)]
    exact ih _ _ (by rw [List.length_drop]; omega)

/-- All whole blocks of a byte string compressed: the chaining words and the bytes left over. -/
def md5WholeBlocks (c : Md5Chain) (x : List Byte) : Md5Chain × List Byte := md5Blocks (x.length / 64) c x

theorem md5WholeBlocks_rest_length (c : Md5Chain) (x : List Byte) :
    (md5WholeBlocks c x).2.length = x.length % 64 := by
  rw [md5WholeBlocks, md5Blocks_rest, List.length_drop]
  omega

/-- Compressing `x` first and then what it left over with `y` is compressing `x ++ y`. -/
theorem md5WholeBlocks_append (c : Md5Chain) (x y : List Byte) :
    md5WholeBlocks c (x ++ y) = md5WholeBlocks (md5WholeBlocks c x).1 ((md5WholeBlocks c x).2 ++ y) := by
  have hcount : (x ++ y).length / 64 = x.length / 64 + ((md5WholeBlocks c x).2 ++ y).length / 64 := by
    rw [List.length_append, List.length_append, md5WholeBlocks_rest_length]
    omega
  rw [md5WholeBlocks, hcount, md5Blocks_add, md5Blocks_append _ c x y (by omega)]
  rfl

/-! ### absorb (R92, R99) -/

theorem Md5Context.absorb_eq (m : Md5Context) (data : List Byte) :
    m.absorb data = ⟨(md5WholeBlocks m.chain (m.part ++ data)).1, m.nbytes + BitVec.ofNat 61 data.length,
      (md5WholeBlocks m.chain (m.part ++ data)).2⟩ := rfl

/-- Splitting holds for every PART, that of a legal context or not. -/
theorem Md5Context.absorb_absorb (m : Md5Context) (a b : List Byte) :
    (m.absorb a).absorb b = m.absorb (a ++ b) := by
  simp only [Md5Context.absorb_eq, ← md5WholeBlocks_append, List.append_assoc, List.length_append, BitVec.ofNat_add,
    BitVec.add_assoc]

/-- A legal context has no whole block in PART, so absorbing nothing compresses nothing. -/
theorem Md5Context.absorb_nil (m : Md5Context) (h : m.Legal) : m.absorb [] = m := by
  obtain ⟨hpart, -⟩ := h
  rw [Md5Context.absorb_eq, md5WholeBlocks, List.append_nil, Nat.div_eq_of_lt hpart]
  simp [md5Blocks]

/-- Settles O54. -/
theorem md5AbsorbSplits : Obligations.Md5AbsorbSplits := fun m a b _ => m.absorb_absorb a b

/-! ### The padding of a message (R90, R92) -/

/-- What is appended to a message of `n` bytes: 0x80, zeros to 56 modulo 64, and the bit length. -/
def md5Padding (n : Nat) : List Byte :=
  [0x80] ++ List.replicate ((119 - n % 64) % 64) 0x00 ++ le64 (BitVec.ofNat 64 (8 * n))

theorem md5_eq (m : List Byte) :
    md5 m = md5Digest (md5WholeBlocks Md5Context.init.chain (m ++ md5Padding m.length)).1 := by
  simp only [md5, md5WholeBlocks, md5Padding, List.append_assoc]

/-- In a legal context NBYTES alone gives the padding, PART being as long as NBYTES modulo 64. -/
theorem Md5Context.finalise_eq (m : Md5Context) (h : m.Legal) :
    m.finalise = md5Digest (md5WholeBlocks m.chain (m.part ++ md5Padding m.nbytes.toNat)).1 := by
  obtain ⟨-, hcount⟩ := h
  simp only [Md5Context.finalise, md5WholeBlocks, md5Padding, hcount, Nat.mod_mod, List.append_assoc]

/-- The wrap of NBYTES does not show: the bit length is taken modulo 2^64 (R92). -/
theorem md5Padding_mod (n : Nat) : md5Padding (n % 2 ^ 61) = md5Padding n := by
  have hzeros : n % 2 ^ 61 % 64 = n % 64 := by omega
  have hbits : BitVec.ofNat 64 (8 * (n % 2 ^ 61)) = BitVec.ofNat 64 (8 * n) := by
    apply BitVec.eq_of_toNat_eq
    rw [BitVec.toNat_ofNat, BitVec.toNat_ofNat]
    omega
  rw [md5Padding, md5Padding, hzeros, hbits]

theorem md5Digest_length (c : Md5Chain) : (md5Digest c).length = 16 := rfl

/-- Streaming compresses the message, then what it left over with the padding: in one go, the padded message. -/
theorem Md5Context.finalise_absorb_init (m : List Byte) : (Md5Context.init.absorb m).finalise = md5 m := by
  have hlen : (Md5Context.init.absorb m).nbytes.toNat = m.length % 2 ^ 61 := by
    simp [Md5Context.absorb_eq, Md5Context.init]
  rw [Md5Context.finalise_eq _ (Md5Context.init.legal_absorb m Md5Context.legal_init), hlen, md5Padding_mod, md5_eq,
    md5WholeBlocks_append Md5Context.init.chain m]
  rfl

/-- Settles O55. -/
theorem md5StreamIsOneShot : Obligations.Md5StreamIsOneShot := fun m =>
  ⟨Md5Context.finalise_absorb_init m, md5Digest_length _⟩

/-! ### The commands on the context (R93 to R95) -/

theorem exec_md5Init (s : State) (p : Pending) (hp : s.pend = some p) :
    exec .md5Init s = .next ((s.setMd5 Md5Context.init).complete none) :=
  withCommand_pending s p _ hp

theorem exec_md5Update_inBounds (s : State) (p : Pending) (hp : s.pend = some p)
    (hin : p.srcOff + p.length ≤ s.buf.size) :
    exec .md5Update s = .next ((s.setMd5 (s.md5.absorb (s.buf.readBytes p.srcOff p.length))).complete none) := by
  refine (withCommand_pending s p _ hp).trans ?_
  rw [withSource_inBounds s p _ hin]

theorem exec_md5UpdateSumb (s : State) (p : Pending) (hp : s.pend = some p) :
    exec .md5UpdateSumb s = .next ((s.setMd5 (s.md5.absorb s.sumb.toList)).complete none) :=
  withCommand_pending s p _ hp

/-- Settles O31. -/
theorem md5ContextCommands : Obligations.Md5ContextCommands := by
  refine fun s p hp => ⟨?_, fun hin => ?_, ?_⟩
  · exact ⟨_, exec_md5Init s p hp, ⟨rfl, rfl, rfl⟩, (frame_setMd5 s _).complete none, rfl⟩
  · refine ⟨_, exec_md5Update_inBounds s p hp hin, ⟨rfl, rfl, rfl⟩, (frame_setMd5 s _).complete none, rfl,
      fun hempty hlegal => ?_⟩
    have hnone : s.buf.readBytes p.srcOff p.length = [] :=
      List.eq_nil_of_length_eq_zero ((Memory.readBytes_length ..).trans hempty)
    rw [State.complete_md5, State.setMd5_md5, hnone, s.md5.absorb_nil hlegal]
  · exact ⟨_, exec_md5UpdateSumb s p hp, ⟨rfl, rfl, rfl⟩, (frame_setMd5 s _).complete none, rfl⟩

/-! ### MD5_FINAL (R96) -/

theorem Md5Context.digestArray_toList (m : Md5Context) : m.digestArray.toList = m.finalise := by
  have hlen : m.finalise.length = 16 := md5Digest_length _
  refine List.ext_getElem (by simp [hlen]) fun i hi hi' => ?_
  simp [Md5Context.digestArray, hi']

theorem exec_md5Final_digest (s : State) (p : Pending) (hp : s.pend = some p) :
    exec (.md5Final .digest) s =
      .next (((s.setDigest s.md5.digestArray).setMd5 Md5Context.init).complete none) :=
  withCommand_pending s p _ hp

theorem exec_md5Final_sum (s : State) (p : Pending) (hp : s.pend = some p) :
    exec (.md5Final .sum) s = .next (((s.setSum s.md5.digestArray).setMd5 Md5Context.init).complete none) :=
  withCommand_pending s p _ hp

/-- Settles O32. -/
theorem md5FinalResult : Obligations.Md5FinalResult := by
  refine fun s p hp => ⟨?_, ?_⟩
  · have hexec := exec_md5Final_digest s p hp
    exact ⟨_, hexec, ⟨rfl, rfl, rfl⟩, frame_md5Final .digest s _ hexec, s.md5.digestArray_toList, rfl⟩
  · have hexec := exec_md5Final_sum s p hp
    exact ⟨_, hexec, ⟨rfl, rfl, rfl⟩, frame_md5Final .sum s _ hexec, s.md5.digestArray_toList, rfl⟩

/-! ### CMP_DIGEST (R97) -/

theorem exec_cmpDigest (s : State) (p : Pending) (hp : s.pend = some p) :
    exec .cmpDigest s = .next (s.complete (if s.digest ≠ s.ref then some .checksumWrong else none)) :=
  withCommand_pending s p _ hp

/-- Settles O33: the two arrays differ exactly when they differ in a byte. -/
theorem cmpDigestOutcome : Obligations.CmpDigestOutcome := by
  refine fun s p hp => ⟨fun hsame => ?_, fun ⟨i, hi, hdiff⟩ => ?_⟩
  · have heq : s.digest = s.ref := Vector.ext hsame
    exact ⟨_, exec_cmpDigest s p hp, ⟨rfl, rfl, if_neg (not_not_intro heq)⟩, frame_complete s _⟩
  · have hne : s.digest ≠ s.ref := fun heq => hdiff (by rw [heq])
    exact ⟨_, exec_cmpDigest s p hp, ⟨rfl, rfl, if_pos hne⟩, frame_complete s _⟩

end Sys2Proof.Machine

/-! SUPPORT. The proofs of the family `44_key_derivation.md`: the hex characters and the interleave of the mask
material, the key byte derived in either generation, and what the eight commands write. -/

namespace Sys2Proof.Machine

/-! ### The mask material (R101, R102) -/

theorem toNat_hexchar (hexlc : Bool) (v : Byte) (h : v.toNat < 16) :
    (hexchar hexlc v).toNat =
      if v.toNat < 10 then 0x30 + v.toNat else if hexlc then 0x61 + (v.toNat - 10) else 0x41 + (v.toNat - 10) := by
  have hdigit : v < 10 ↔ v.toNat < 10 := BitVec.lt_def
  simp only [hexchar, hdigit]
  split_ifs <;> bv_omega

theorem toNat_high_nibble (b : Byte) : (b >>> 4).toNat = b.toNat / 16 := by
  rw [BitVec.toNat_ushiftRight, Nat.shiftRight_eq_div_pow]

theorem toNat_low_nibble (b : Byte) : (b &&& 0x0F).toNat = b.toNat % 16 := by
  rw [BitVec.toNat_and]
  exact Nat.and_two_pow_sub_one_eq_mod b.toNat 4

theorem getElem_hexExpand_even (hexlc : Bool) (sum : Vector Byte 16) (i : Nat) (h : i < 16) :
    (hexExpand hexlc sum)[2 * i] = hexchar hexlc (sum[i] >>> 4) := by
  simp [hexExpand]

theorem getElem_hexExpand_odd (hexlc : Bool) (sum : Vector Byte 16) (i : Nat) (h : i < 16) :
    (hexExpand hexlc sum)[2 * i + 1] = hexchar hexlc (sum[i] &&& 0x0F) := by
  simp [hexExpand, Nat.mul_add_div]

theorem getElem_uuidInterleave_even (sum uuid : Vector Byte 16) (i : Nat) (h : i < 16) :
    (uuidInterleave sum uuid)[2 * i] = sum[i] := by
  simp [uuidInterleave]

theorem getElem_uuidInterleave_odd (sum uuid : Vector Byte 16) (i : Nat) (h : i < 16) :
    (uuidInterleave sum uuid)[2 * i + 1] = uuid[15 - i] := by
  simp [uuidInterleave, Nat.mul_add_div]

theorem exec_kdHex (s : State) (p : Pending) (hp : s.pend = some p) :
    exec .kdHex s = .next ((s.setSumb (hexExpand s.ctrl.hexlc s.sum)).complete none) :=
  withCommand_pending s p _ hp

theorem exec_kdUuid (s : State) (p : Pending) (hp : s.pend = some p) :
    exec .kdUuid s = .next ((s.setSumb (uuidInterleave s.sum s.uuid)).complete none) :=
  withCommand_pending s p _ hp

/-- Settles O34. -/
theorem maskMaterialResults : Obligations.MaskMaterialResults := by
  refine fun s p hp => ⟨?_, ?_⟩
  · refine ⟨_, exec_kdHex s p hp, ⟨rfl, rfl, rfl⟩, (frame_setSumb s _).complete none, fun i hi => ?_⟩
    have hhigh := toNat_high_nibble s.sum[i]
    have hlow := toNat_low_nibble s.sum[i]
    simp only [State.complete_sumb, State.setSumb_sumb, getElem_hexExpand_even _ _ i hi,
      getElem_hexExpand_odd _ _ i hi]
    rw [toNat_hexchar _ _ (by omega), toNat_hexchar _ _ (by omega), hhigh, hlow]
    exact ⟨rfl, rfl⟩
  · exact ⟨_, exec_kdUuid s p hp, ⟨rfl, rfl, rfl⟩, (frame_setSumb s _).complete none, fun i hi =>
      ⟨getElem_uuidInterleave_even s.sum s.uuid i hi, getElem_uuidInterleave_odd s.sum s.uuid i hi⟩⟩

/-! ### The derived key byte (R103, R104) -/

theorem maskG0_injective (role : Bool) (m : Byte) : Function.Injective fun k => maskG0 role k m :=
  fun _ _ => (BitVec.xor_left_inj (if role then ~~~m else m)).mp

theorem maskG0_role (k m : Byte) : maskG0 true k m = ~~~maskG0 false k m :=
  BitVec.not_xor_right.symm

theorem maskG1_odd (oddNot evenNot : Bool) (k m : Byte) (h : parity8 m = true) :
    maskG1 oddNot evenNot k m = (if oddNot then ~~~k else k) ^^^ gray8 m :=
  if_pos h

theorem maskG1_even (oddNot evenNot : Bool) (k m : Byte) (h : parity8 m = false) :
    maskG1 oddNot evenNot k m = brev8 (if evenNot then ~~~k else k) ^^^ m := by
  rw [maskG1, h, if_neg Bool.false_ne_true]

theorem complementIf_injective (c : Bool) : Function.Injective fun k : Byte => if c then ~~~k else k := by
  cases c
  · exact fun _ _ h => h
  · exact fun _ _ h => BitVec.not_inj.mp h

theorem maskG1_injective (oddNot evenNot : Bool) (m : Byte) :
    Function.Injective fun k => maskG1 oddNot evenNot k m := by
  intro k k' h
  cases hpar : parity8 m with
  | true =>
    simp only [maskG1_odd _ _ _ m hpar, BitVec.xor_left_inj] at h
    exact complementIf_injective oddNot h
  | false =>
    simp only [maskG1_even _ _ _ m hpar, BitVec.xor_left_inj] at h
    exact complementIf_injective evenNot (Function.LeftInverse.injective brev8_brev8 h)

/-- Bit reversal and XOR pass a complement of the key byte on to the result. -/
theorem maskG1_not_not (oddNot evenNot : Bool) (k m : Byte) :
    maskG1 (!oddNot) (!evenNot) k m = ~~~maskG1 oddNot evenNot k m := by
  have hflip (c : Bool) : (if !c then ~~~k else k) = ~~~(if c then ~~~k else k) := by
    cases c <;> simp
  cases hpar : parity8 m with
  | true => rw [maskG1_odd _ _ k m hpar, maskG1_odd _ _ k m hpar, hflip, BitVec.not_xor_left]
  | false => rw [maskG1_even _ _ k m hpar, maskG1_even _ _ k m hpar, hflip, brev8_not, BitVec.not_xor_left]

/-! ### KD_G0 and KD_G1 (R103, R104) -/

theorem exec_kdG0 (s : State) (p : Pending) (hp : s.pend = some p) :
    exec .kdG0 s =
      .next ((s.setRkey (Vector.ofFn fun i => maskG0 s.ctrl.role s.key[i] s.sumb[i])).complete none) :=
  withCommand_pending s p _ hp

theorem exec_kdG1 (s : State) (p : Pending) (hp : s.pend = some p) :
    exec .kdG1 s = .next ((s.setRkey (Vector.ofFn fun i =>
      maskG1 (s.g1cfg.oddNot s.ctrl.role) (s.g1cfg.evenNot s.ctrl.role) s.key[i] s.sumb[i])).complete none) :=
  withCommand_pending s p _ hp

/-- Settles O35. -/
theorem keyDerivationResults : Obligations.KeyDerivationResults := by
  refine fun s p hp => ⟨?_, ?_⟩
  · refine ⟨_, exec_kdG0 s p hp, ⟨rfl, rfl, rfl⟩, (frame_setRkey s _).complete none, fun i hi => ?_⟩
    simp only [State.complete_rkey, State.setRkey_rkey, Vector.getElem_ofFn, Fin.getElem_fin, maskG0]
  · refine ⟨_, exec_kdG1 s p hp, ⟨rfl, rfl, rfl⟩, (frame_setRkey s _).complete none, fun i hi => ?_⟩
    simp only [State.complete_rkey, State.setRkey_rkey, Vector.getElem_ofFn, Fin.getElem_fin]
    exact ⟨maskG1_odd _ _ _ _, maskG1_even _ _ _ _⟩

/-! ### The IV masks (R105 to R108) -/

theorem exec_ivMaskG0 (s : State) (p : Pending) (hp : s.pend = some p) :
    exec .ivMaskG0 s = .next ((s.setIvenc (Vector.ofFn fun i => s.iv[i] ^^^ s.sum[i])).complete none) :=
  withCommand_pending s p _ hp

theorem exec_ivMaskG1 (s : State) (p : Pending) (hp : s.pend = some p) :
    exec .ivMaskG1 s = .next ((s.setIvenc (Vector.ofFn fun i => ~~~s.iv[i] ^^^ s.sum[i])).complete none) :=
  withCommand_pending s p _ hp

theorem exec_ivUnmaskG0 (s : State) (p : Pending) (hp : s.pend = some p) :
    exec .ivUnmaskG0 s = .next ((s.setIv (Vector.ofFn fun i => s.ivenc[i] ^^^ s.sum[i])).complete none) :=
  withCommand_pending s p _ hp

theorem exec_ivUnmaskG1 (s : State) (p : Pending) (hp : s.pend = some p) :
    exec .ivUnmaskG1 s = .next ((s.setIv (Vector.ofFn fun i => ~~~(s.ivenc[i] ^^^ s.sum[i]))).complete none) :=
  withCommand_pending s p _ hp

/-- Settles O36. -/
theorem ivMaskResults : Obligations.IvMaskResults := by
  refine fun s p hp => ⟨?_, ?_, ?_, ?_⟩
  · exact ⟨_, exec_ivMaskG0 s p hp, ⟨rfl, rfl, rfl⟩, (frame_setIvenc s _).complete none,
      fun i hi => Vector.getElem_ofFn hi⟩
  · exact ⟨_, exec_ivMaskG1 s p hp, ⟨rfl, rfl, rfl⟩, (frame_setIvenc s _).complete none,
      fun i hi => Vector.getElem_ofFn hi⟩
  · exact ⟨_, exec_ivUnmaskG0 s p hp, ⟨rfl, rfl, rfl⟩, (frame_setIv s _).complete none,
      fun i hi => Vector.getElem_ofFn hi⟩
  · exact ⟨_, exec_ivUnmaskG1 s p hp, ⟨rfl, rfl, rfl⟩, (frame_setIv s _).complete none,
      fun i hi => Vector.getElem_ofFn hi⟩

/-! ### Unmasking undoes masking (R109) -/

theorem getElem_ivenc_of_ivMaskG0 {s t : State} (h : exec .ivMaskG0 s = .next t) (i : Nat) (hi : i < 16) :
    t.ivenc[i] = s.iv[i] ^^^ s.sum[i] := by
  obtain ⟨_, -, rfl⟩ := withCommand_next s t _ h
  exact Vector.getElem_ofFn hi

theorem getElem_ivenc_of_ivMaskG1 {s t : State} (h : exec .ivMaskG1 s = .next t) (i : Nat) (hi : i < 16) :
    t.ivenc[i] = ~~~s.iv[i] ^^^ s.sum[i] := by
  obtain ⟨_, -, rfl⟩ := withCommand_next s t _ h
  exact Vector.getElem_ofFn hi

theorem getElem_iv_of_ivUnmaskG0 {s t : State} (h : exec .ivUnmaskG0 s = .next t) (i : Nat) (hi : i < 16) :
    t.iv[i] = s.ivenc[i] ^^^ s.sum[i] := by
  obtain ⟨_, -, rfl⟩ := withCommand_next s t _ h
  exact Vector.getElem_ofFn hi

theorem getElem_iv_of_ivUnmaskG1 {s t : State} (h : exec .ivUnmaskG1 s = .next t) (i : Nat) (hi : i < 16) :
    t.iv[i] = ~~~(s.ivenc[i] ^^^ s.sum[i]) := by
  obtain ⟨_, -, rfl⟩ := withCommand_next s t _ h
  exact Vector.getElem_ofFn hi

theorem ivUnmaskG0_after_ivMaskG0 (s t u : State) (p : Pending) (v : Vector Byte 16)
    (hmask : exec .ivMaskG0 s = .next t) (hunmask : exec .ivUnmaskG0 { t with pend := some p, iv := v } = .next u) :
    u.iv = s.iv := by
  have hsum : t.sum = s.sum := (exec_frame .ivMaskG0 s t hmask).2 .sum (by decide)
  ext1 i hi
  rw [getElem_iv_of_ivUnmaskG0 hunmask, getElem_ivenc_of_ivMaskG0 hmask, hsum, BitVec.xor_assoc,
    BitVec.xor_self, BitVec.xor_zero]

theorem ivUnmaskG1_after_ivMaskG1 (s t u : State) (p : Pending) (v : Vector Byte 16)
    (hmask : exec .ivMaskG1 s = .next t) (hunmask : exec .ivUnmaskG1 { t with pend := some p, iv := v } = .next u) :
    u.iv = s.iv := by
  have hsum : t.sum = s.sum := (exec_frame .ivMaskG1 s t hmask).2 .sum (by decide)
  ext1 i hi
  rw [getElem_iv_of_ivUnmaskG1 hunmask, getElem_ivenc_of_ivMaskG1 hmask, hsum, BitVec.xor_assoc,
    BitVec.xor_self, BitVec.xor_zero, BitVec.not_not]

/-! ### RKEY by ROLE and by the stored key (R109) -/

theorem getElem_rkey_of_kdG0 {s t : State} (h : exec .kdG0 s = .next t) (j : Nat) (hj : j < 32) :
    t.rkey[j] = maskG0 s.ctrl.role s.key[j] s.sumb[j] := by
  obtain ⟨_, -, rfl⟩ := withCommand_next s t _ h
  exact Vector.getElem_ofFn hj

theorem getElem_rkey_of_kdG1 {s t : State} (h : exec .kdG1 s = .next t) (j : Nat) (hj : j < 32) :
    t.rkey[j] = maskG1 (s.g1cfg.oddNot s.ctrl.role) (s.g1cfg.evenNot s.ctrl.role) s.key[j] s.sumb[j] := by
  obtain ⟨_, -, rfl⟩ := withCommand_next s t _ h
  exact Vector.getElem_ofFn hj

/-- The reset G1CFG complements the odd branch for ROLE = 0 and the even branch for ROLE = 1, so ROLE flips both. -/
theorem G1Cfg.reset_role :
    G1Cfg.reset.oddNot true = !G1Cfg.reset.oddNot false ∧ G1Cfg.reset.evenNot true = !G1Cfg.reset.evenNot false :=
  ⟨rfl, rfl⟩

/-- Settles O60: the masks undo each other byte by byte, and the derived byte is injective in the key byte. -/
theorem derivationInversesAndSymmetry : Obligations.DerivationInversesAndSymmetry := by
  refine ⟨fun s t u p v => ⟨ivUnmaskG0_after_ivMaskG0 s t u p v, ivUnmaskG1_after_ivMaskG1 s t u p v⟩,
    fun s t u i hi ht hu j hj => ?_, fun s t u k i hi ht hu heq => ?_⟩
  · obtain rfl | ⟨rfl, hcfg⟩ := hi
    · rw [getElem_rkey_of_kdG0 ht, getElem_rkey_of_kdG0 hu, maskG0_role]
    · obtain ⟨hodd, heven⟩ := G1Cfg.reset_role
      rw [getElem_rkey_of_kdG1 ht, getElem_rkey_of_kdG1 hu, hcfg, hodd, heven, maskG1_not_not]
  · ext1 j hj
    have hbyte : u.rkey[j] = t.rkey[j] := by rw [heq]
    obtain rfl | rfl := hi
    · rw [getElem_rkey_of_kdG0 ht, getElem_rkey_of_kdG0 hu] at hbyte
      exact maskG0_injective _ _ hbyte
    · rw [getElem_rkey_of_kdG1 ht, getElem_rkey_of_kdG1 hu] at hbyte
      exact maskG1_injective _ _ _ hbyte

end Sys2Proof.Machine

/-! SUPPORT. The proofs of the family `45_aes_cbc_pkcs7.md`: the S-box tables, the field of R111, each layer of a round
and its inverse, CBC and the padding over byte strings, and what the two AES commands write. -/

namespace Sys2Proof.Machine

/-! ### The S-box tables (R112, R113) -/

/-- The inverse of the affine map of R112: bit `i` is `b[i+2] XOR b[i+5] XOR b[i+7] XOR 0x05[i]`, indices modulo 8. -/
def sboxAffineInv (b : Byte) : Byte := b.rotateRight 2 ^^^ b.rotateRight 5 ^^^ b.rotateRight 7 ^^^ 0x05

theorem sboxAffine_sboxAffineInv : ∀ b : Byte, sboxAffine (sboxAffineInv b) = b := by decide

/-- The affine map taken back from a table entry leaves the multiplicative inverse, and 0 at 0. -/
theorem gfMul_sboxAffineInv_sbox : ∀ x : Byte,
    (x = 0 ∧ sboxAffineInv (sbox x) = 0) ∨ gfMul x (sboxAffineInv (sbox x)) = 1 := by decide

@[simp] theorem invSbox_sbox : ∀ x : Byte, invSbox (sbox x) = x := by decide

/-- Settles O56. -/
theorem sboxTablesMatchDefinition : Obligations.SboxTablesMatchDefinition :=
  ⟨fun x => ⟨sboxAffineInv (sbox x), gfMul_sboxAffineInv_sbox x, (sboxAffine_sboxAffineInv (sbox x)).symm⟩,
    invSbox_sbox⟩

/-! ### The field (R111) -/

theorem xtime_xor (a b : Byte) : xtime (a ^^^ b) = xtime a ^^^ xtime b := by
  have hreduce (c d : Bool) :
      (if c ^^ d then (0x1B : Byte) else 0) = (if c then 0x1B else 0) ^^^ (if d then 0x1B else 0) := by
    cases c <;> cases d <;> decide
  simp only [xtime, BitVec.getElem_xor, BitVec.shiftLeft_xor_distrib, hreduce]
  ac_rfl

@[simp] theorem xtime_zero : xtime 0 = 0 := rfl

theorem ite_xor (c : Bool) (a b : Byte) :
    (if c then a ^^^ b else 0) = (if c then a else 0) ^^^ (if c then b else 0) := by
  cases c <;> simp

theorem gfMulBits_xor_left (n : Nat) (a a' b : Byte) :
    gfMulBits n (a ^^^ a') b = gfMulBits n a b ^^^ gfMulBits n a' b := by
  induction n generalizing a a' b with
  | zero => exact (BitVec.xor_self (x := 0)).symm
  | succ n ih =>
    simp only [gfMulBits, xtime_xor, ih, ite_xor]
    ac_rfl

theorem gfMulBits_xtime (n : Nat) (a b : Byte) : gfMulBits n (xtime a) b = xtime (gfMulBits n a b) := by
  induction n generalizing a b with
  | zero => exact xtime_zero.symm
  | succ n ih =>
    simp only [gfMulBits, ih, xtime_xor, apply_ite xtime, xtime_zero]

theorem gfMul_xor_left (a a' b : Byte) : gfMul (a ^^^ a') b = gfMul a b ^^^ gfMul a' b := gfMulBits_xor_left 8 a a' b

theorem gfMul_xtime (a b : Byte) : gfMul (xtime a) b = xtime (gfMul a b) := gfMulBits_xtime 8 a b

theorem gfMul_zero_left (b : Byte) : gfMul 0 b = 0 := by
  have h := gfMul_xor_left 0 0 b
  simpa using h

/-- A product with a product: the right factors can change places, since `xtime` passes through both products. -/
theorem gfMul_gfMulBits (n : Nat) (a b c : Byte) : gfMul (gfMulBits n a b) c = gfMulBits n (gfMul a c) b := by
  induction n generalizing a b with
  | zero => exact gfMul_zero_left c
  | succ n ih =>
    simp only [gfMulBits, gfMul_xor_left, ih, gfMul_xtime, apply_ite (gfMul · c), gfMul_zero_left]

theorem gfMul_right_comm (a b c : Byte) : gfMul (gfMul a b) c = gfMul (gfMul a c) b := gfMul_gfMulBits 8 a b c

theorem gfMul_one_left : ∀ b : Byte, gfMul 1 b = b := by decide

theorem gfMul_comm (a b : Byte) : gfMul a b = gfMul b a := by
  simpa only [gfMul_one_left] using gfMul_right_comm 1 a b

theorem gfMul_assoc (a b c : Byte) : gfMul (gfMul a b) c = gfMul a (gfMul b c) := by
  rw [gfMul_comm a b, gfMul_right_comm, gfMul_comm]

theorem gfMul_xor_right (a b b' : Byte) : gfMul a (b ^^^ b') = gfMul a b ^^^ gfMul a b' := by
  simp only [gfMul_comm a, gfMul_xor_left]

/-! ### The bytes of the state (R110) -/

@[simp] theorem stateByte_stateOf (f : Nat → Nat → Byte) (r c : Nat) :
    stateByte (stateOf f) r c = f (r % 4) (c % 4) := by
  simp only [stateByte, stateOf, Vector.getElem_ofFn]
  congr 1 <;> omega

/-- Rows and columns count modulo 4. -/
theorem stateByte_congr (s : Block) {r r' c c' : Nat} (hr : r % 4 = r' % 4) (hc : c % 4 = c' % 4) :
    stateByte s r c = stateByte s r' c' := by
  simp only [stateByte, hr, hc]

theorem block_ext {s t : Block} (h : ∀ r c, stateByte s r c = stateByte t r c) : s = t := by
  ext1 i hi
  have hbyte := h (i % 4) (i / 4)
  have hidx : i % 4 % 4 + 4 * (i / 4 % 4) = i := by omega
  simpa only [stateByte, hidx] using hbyte

/-! ### The layers of a round (R115, R116) -/

theorem invSubBytes_subBytes (s : Block) : invSubBytes (subBytes s) = s := by
  ext1 i hi
  simp [invSubBytes, subBytes]

@[simp] theorem stateByte_shiftRows (s : Block) (r c : Nat) : stateByte (shiftRows s) r c = stateByte s r (c + r) := by
  rw [shiftRows, stateByte_stateOf]
  exact stateByte_congr s (by omega) (by omega)

@[simp] theorem stateByte_invShiftRows (s : Block) (r c : Nat) :
    stateByte (invShiftRows s) r c = stateByte s r (c + 4 - r % 4) := by
  rw [invShiftRows, stateByte_stateOf]
  exact stateByte_congr s (by omega) (by omega)

theorem invShiftRows_shiftRows (s : Block) : invShiftRows (shiftRows s) = s := by
  refine block_ext fun r c => ?_
  rw [stateByte_invShiftRows, stateByte_shiftRows]
  exact stateByte_congr s rfl (by omega)

@[simp] theorem stateByte_mixWith (k0 k1 k2 k3 : Byte) (s : Block) (r c : Nat) :
    stateByte (mixWith k0 k1 k2 k3 s) r c =
      gfMul k0 (stateByte s r c) ^^^ gfMul k1 (stateByte s (r + 1) c) ^^^
      gfMul k2 (stateByte s (r + 2) c) ^^^ gfMul k3 (stateByte s (r + 3) c) := by
  have hrow (i : Nat) : stateByte s (r % 4 + i) (c % 4) = stateByte s (r + i) c :=
    stateByte_congr s (by omega) (by omega)
  rw [mixWith, stateByte_stateOf, hrow 1, hrow 2, hrow 3, stateByte_congr s (Nat.mod_mod r 4) (Nat.mod_mod c 4)]

/-- Two column products are one, by the product of their circulant matrices. -/
theorem mixWith_mixWith (k0 k1 k2 k3 l0 l1 l2 l3 : Byte) (s : Block) :
    mixWith k0 k1 k2 k3 (mixWith l0 l1 l2 l3 s) =
      mixWith (gfMul k0 l0 ^^^ gfMul k1 l3 ^^^ gfMul k2 l2 ^^^ gfMul k3 l1)
        (gfMul k0 l1 ^^^ gfMul k1 l0 ^^^ gfMul k2 l3 ^^^ gfMul k3 l2)
        (gfMul k0 l2 ^^^ gfMul k1 l1 ^^^ gfMul k2 l0 ^^^ gfMul k3 l3)
        (gfMul k0 l3 ^^^ gfMul k1 l2 ^^^ gfMul k2 l1 ^^^ gfMul k3 l0) s := by
  refine block_ext fun r c => ?_
  have hrow (i : Nat) : stateByte s (r + (4 + i)) c = stateByte s (r + i) c := stateByte_congr s (by omega) rfl
  have h4 := hrow 0
  have h5 := hrow 1
  have h6 := hrow 2
  simp only [stateByte_mixWith, gfMul_xor_left, gfMul_xor_right, gfMul_assoc, Nat.add_assoc, Nat.reduceAdd,
    Nat.add_zero] at h4 h5 h6 ⊢
  rw [h4, h5, h6]
  ac_rfl

theorem mixWith_one (s : Block) : mixWith 1 0 0 0 s = s :=
  block_ext fun r c => by
    rw [stateByte_mixWith, gfMul_one_left, gfMul_zero_left, gfMul_zero_left, gfMul_zero_left]
    simp

/-- The product of the matrices of R115 and R116 is the identity, entry by entry. -/
theorem invMixColumns_mixColumns (s : Block) : invMixColumns (mixColumns s) = s := by
  rw [invMixColumns, mixColumns, mixWith_mixWith]
  exact mixWith_one s

theorem addRoundKey_addRoundKey (w : List KeyWord) (r : Nat) (s : Block) :
    addRoundKey w r (addRoundKey w r s) = s := by
  refine block_ext fun i c => ?_
  simp only [addRoundKey, stateByte_stateOf, Nat.mod_mod, BitVec.xor_assoc, BitVec.xor_self, BitVec.xor_zero]
  exact stateByte_congr s (Nat.mod_mod i 4) (Nat.mod_mod c 4)

/-! ### The cipher and its inverse (R115, R116) -/

/-- The two layers with which the cipher's rounds begin and the inverse cipher's rounds end. -/
theorem invLayers_layers (s : Block) : invSubBytes (invShiftRows (shiftRows (subBytes s))) = s := by
  rw [invShiftRows_shiftRows, invSubBytes_subBytes]

/-- A round of the inverse cipher takes back a round of the cipher, seen past the first two layers of the next round. -/
theorem decRound_encRound (w : List KeyWord) (s : Block) (r : Nat) :
    decRound w (shiftRows (subBytes (encRound w s r))) r = shiftRows (subBytes s) := by
  rw [decRound, invLayers_layers, encRound, addRoundKey_addRoundKey, invMixColumns_mixColumns]

theorem foldl_decRound_foldl_encRound (w : List KeyWord) (rounds : List Nat) (s : Block) :
    rounds.reverse.foldl (decRound w) (shiftRows (subBytes (rounds.foldl (encRound w) s))) =
      shiftRows (subBytes s) := by
  induction rounds generalizing s with
  | nil => rfl
  | cons r rest ih =>
    rw [List.foldl_cons, List.reverse_cons, List.foldl_append, ih, List.foldl_cons, List.foldl_nil, decRound_encRound]

theorem decryptBlock_encryptBlock (w : List KeyWord) (x : Block) : decryptBlock w (encryptBlock w x) = x := by
  rw [decryptBlock, encryptBlock, addRoundKey_addRoundKey, foldl_decRound_foldl_encRound, invLayers_layers,
    addRoundKey_addRoundKey]

/-- Settles O57. -/
theorem aesDecryptInvertsEncrypt : Obligations.AesDecryptInvertsEncrypt := fun key x =>
  decryptBlock_encryptBlock (expandKey key) x

/-! ### CBC over byte strings (R117) -/

theorem xorBytes_xorBytes {n : Nat} (a b : Vector Byte n) : xorBytes (xorBytes a b) b = a := by
  ext1 i hi
  simp [xorBytes]

theorem cbcDecBlocks_cbcEncBlocks (key : Vector Byte 32) (prev : Block) (bs : List Block) :
    cbcDecBlocks key prev (cbcEncBlocks key prev bs) = bs := by
  induction bs generalizing prev with
  | nil => rfl
  | cons p rest ih => rw [cbcEncBlocks, cbcDecBlocks, ih, aesDecryptInvertsEncrypt key, xorBytes_xorBytes]

theorem blockOfBytes_toList (b : Block) : blockOfBytes b.toList = b := by
  ext1 i hi
  simp [blockOfBytes]

theorem toList_blockOfBytes (x : List Byte) (h : x.length = 16) : (blockOfBytes x).toList = x := by
  refine List.ext_getElem (by simp [h]) fun i _ hi => ?_
  simp [blockOfBytes, hi]

theorem blocksOf_bytesOfBlocks (bs : List Block) : blocksOf bs.length (bytesOfBlocks bs) = bs := by
  induction bs with
  | nil => rfl
  | cons b rest ih =>
    have hbytes : bytesOfBlocks (b :: rest) = b.toList ++ bytesOfBlocks rest := rfl
    rw [List.length_cons, blocksOf, hbytes, List.take_left' b.length_toList, List.drop_left' b.length_toList, ih,
      blockOfBytes_toList]

theorem bytesOfBlocks_blocksOf (n : Nat) (x : List Byte) (h : x.length = 16 * n) :
    bytesOfBlocks (blocksOf n x) = x := by
  induction n generalizing x with
  | zero => exact (List.length_eq_zero_iff.1 h).symm
  | succ n ih =>
    have hrest : bytesOfBlocks (blocksOf n (x.drop 16)) = x.drop 16 := ih _ (by rw [List.length_drop]; omega)
    calc bytesOfBlocks (blocksOf (n + 1) x)
      _ = (blockOfBytes (x.take 16)).toList ++ bytesOfBlocks (blocksOf n (x.drop 16)) := rfl
      _ = x.take 16 ++ x.drop 16 := by
        rw [toList_blockOfBytes _ (by rw [List.length_take]; omega), hrest]
      _ = x := List.take_append_drop 16 x

theorem cbcDec_cbcEnc (key : Vector Byte 32) (iv : Block) (x : List Byte) (h : x.length % 16 = 0) :
    cbcDec key iv (cbcEnc key iv x) = x := by
  have hblocks : blocksOf (x.length / 16) (cbcEnc key iv x) = cbcEncBlocks key iv (blocksOf (x.length / 16) x) := by
    have hread := blocksOf_bytesOfBlocks (cbcEncBlocks key iv (blocksOf (x.length / 16) x))
    rwa [cbcEncBlocks_length, blocksOf_length] at hread
  rw [cbcDec, cbcEnc_length, Nat.mul_div_cancel_left _ (by decide), hblocks, cbcDecBlocks_cbcEncBlocks,
    bytesOfBlocks_blocksOf _ _ (by omega)]

/-! ### Padding (R118) -/

theorem toNat_ofNat_pad (q : Nat) (h : q ≤ 16) : (BitVec.ofNat 8 q).toNat = q := by
  rw [BitVec.toNat_ofNat]; omega

/-- The last byte of a nonempty string is the byte that `unpad` reads the pad length from. -/
theorem getLast?_eq_some_iff_getD (y : List Byte) (h : y.length ≠ 0) (v : Byte) :
    y.getLast? = some v ↔ y.getD (y.length - 1) 0 = v := by
  have hlast : y.length - 1 < y.length := by omega
  simp [List.getLast?_eq_getElem?, hlast]

/-- The last `q` bytes are a byte repeated exactly when each of them, counted from the end, is that byte. -/
theorem drop_eq_replicate_iff (y : List Byte) (q : Nat) (v : Byte) (h : q ≤ y.length) :
    y.drop (y.length - q) = List.replicate q v ↔ ∀ t, 1 ≤ t → t ≤ q → y.getD (y.length - t) 0 = v := by
  have hlen : (y.drop (y.length - q)).length = q := by rw [List.length_drop]; omega
  rw [List.eq_replicate_iff]
  simp only [hlen, true_and, List.forall_mem_iff_getElem, List.getElem_drop]
  constructor
  · intro hall t h1 ht
    have hbyte := hall (q - t) (by omega)
    rw [List.getD_eq_getElem _ _ (by omega)]
    convert hbyte using 2
    omega
  · intro hall i hi
    have hbyte := hall (q - i) (by omega) (by omega)
    rw [List.getD_eq_getElem _ _ (by omega)] at hbyte
    convert hbyte using 2
    omega

/-- What `unpad` accepts (R118), over the last byte and the bytes before it. -/
theorem unpad_eq_some_iff (y : List Byte) (q : Nat) : unpad y = some q ↔
    (y.getD (y.length - 1) 0).toNat = q ∧ q ≤ 16 ∧ ∀ t, 1 ≤ t → t ≤ q → (y.getD (y.length - t) 0).toNat = q := by
  have hall (p : Nat) : ((List.range' 1 p).all fun t => (y.getD (y.length - t) 0).toNat == p) = true ↔
      ∀ t, 1 ≤ t → t ≤ p → (y.getD (y.length - t) 0).toNat = p := by
    simp [List.mem_range'_1, Nat.lt_one_add_iff]
  unfold unpad
  dsimp only
  split_ifs with hbig htail
  · simp only [false_iff]
    omega
  · rw [hall] at htail
    rw [Option.some.injEq]
    refine ⟨?_, fun h => h.1⟩
    rintro rfl
    exact ⟨rfl, by omega, htail⟩
  · rw [hall] at htail
    simp only [false_iff]
    rintro ⟨rfl, -, h⟩
    exact htail h

/-- On nonempty whole blocks `unpad` drops `q` bytes exactly when the string ends in `q` bytes of value `q`, `q` at
most 16. -/
theorem unpad_eq_some_iff_tail (y : List Byte) (hne : y.length ≠ 0) (hlen : y.length % 16 = 0) (q : Nat) :
    unpad y = some q ↔ y.getLast? = some (BitVec.ofNat 8 q) ∧ q ≤ 16 ∧
      y.drop (y.length - q) = List.replicate q (BitVec.ofNat 8 q) := by
  rw [unpad_eq_some_iff, getLast?_eq_some_iff_getD y hne]
  have hbyte (hq : q ≤ 16) (v : Byte) : v.toNat = q ↔ v = BitVec.ofNat 8 q := by
    rw [← BitVec.toNat_inj, toNat_ofNat_pad q hq]
  constructor
  · rintro ⟨hlast, hq, htail⟩
    exact ⟨(hbyte hq _).1 hlast, hq, (drop_eq_replicate_iff y q _ (by omega)).2 fun t h1 ht =>
      (hbyte hq _).1 (htail t h1 ht)⟩
  · rintro ⟨hlast, hq, htail⟩
    exact ⟨(hbyte hq _).2 hlast, hq, fun t h1 ht =>
      (hbyte hq _).2 ((drop_eq_replicate_iff y q _ (by omega)).1 htail t h1 ht)⟩

/-- How many bytes `pad` appends (R118). -/
def padCount (x : List Byte) : Nat := 16 - x.length % 16

theorem padBytes_eq (x : List Byte) :
    padBytes x = x ++ List.replicate (padCount x) (BitVec.ofNat 8 (padCount x)) := rfl

theorem padCount_bounds (x : List Byte) : 1 ≤ padCount x ∧ padCount x ≤ 16 := by
  unfold padCount; omega

theorem padBytes_length_mod (x : List Byte) : (padBytes x).length % 16 = 0 := by
  rw [padBytes_length]; omega

theorem padBytes_length_eq (x : List Byte) : (padBytes x).length = x.length + padCount x := padBytes_length x

theorem unpad_padBytes (x : List Byte) : unpad (padBytes x) = some (padCount x) := by
  obtain ⟨hpos, hle⟩ := padCount_bounds x
  have hlen := padBytes_length_eq x
  rw [unpad_eq_some_iff_tail _ (by omega) (padBytes_length_mod x)]
  refine ⟨?_, hle, ?_⟩
  · rw [padBytes_eq, List.getLast?_append, List.getLast?_replicate, if_neg (by omega)]
    rfl
  · rw [hlen, Nat.add_sub_cancel, padBytes_eq, List.drop_left]

/-- Settles O58: CBC block by block, and each clause on padding from what `unpad` accepts. -/
theorem cbcAndPaddingInvert : Obligations.CbcAndPaddingInvert := by
  refine ⟨cbcDec_cbcEnc, fun x => ⟨padBytes_length_mod x, ?_, padCount x, unpad_padBytes x, (padCount_bounds x).1,
    (padCount_bounds x).2, padBytes_length_eq x⟩, fun y hne hlen => ?_⟩
  · rw [padBytes_eq, List.take_left]
  · have haccepts := unpad_eq_some_iff_tail y hne hlen
    refine ⟨haccepts, fun hzero => (haccepts 0).2 ⟨hzero, by decide, by simp⟩, fun v hlast hbig => ?_⟩
    rw [Option.eq_none_iff_forall_ne_some]
    intro q hq
    obtain ⟨hq_last, hq_le, -⟩ := (haccepts q).1 hq
    rw [hlast, Option.some.injEq] at hq_last
    rw [hq_last, toNat_ofNat_pad q hq_le] at hbig
    omega

/-! ### Regions of BUF -/

theorem Memory.readBytes_writeBytes (m : Memory) (off : Nat) (x : List Byte) :
    (m.writeBytes off x).readBytes off x.length = x := by
  refine List.ext_getElem (by simp) fun k _ hk => ?_
  simp only [Memory.readBytes, List.getElem_map, List.getElem_range]
  rw [Memory.read_writeBytes_inside _ _ _ _ hk, List.getD_eq_getElem _ _ hk]

/-! ### The commands whose checks pass (R119, R120) -/

/-- The end of an AES command whose checks pass: the byte string `x` written from `off` on, OUTLEN `n`, and the code. -/
def State.wroteRegion (s : State) (off : Nat) (x : List Byte) (n : Nat) (code : Option ErrCode) : State :=
  ((s.setBuf (s.buf.writeBytes off x)).setOutlen n).complete code

section
variable (s : State) (off : Nat) (x : List Byte) (n : Nat) (code : Option ErrCode)

theorem State.wroteRegion_completed : (s.wroteRegion off x n code).CompletedWith code := ⟨rfl, rfl, rfl⟩

theorem frame_wroteRegion : Frame [.buf, .outlen] s (s.wroteRegion off x n code) :=
  (frame_setBuf_setOutlen s _ n).complete code

theorem State.bufHolds_wroteRegion : BufHolds (s.wroteRegion off x n code) off x := fun k hk =>
  s.buf.read_writeBytes_inside off k x hk

theorem State.bufSameOutside_wroteRegion : BufSameOutside off x.length s (s.wroteRegion off x n code) :=
  ⟨s.buf.writeBytes_size off x, fun a ha => s.buf.read_writeBytes_outside off a x ha⟩

theorem State.toNat_outlen_wroteRegion (hn : n < 2 ^ 32) : (s.wroteRegion off x n code).outlen.toNat = n := by
  rw [show (s.wroteRegion off x n code).outlen = BitVec.ofNat 32 n from rfl, BitVec.toNat_ofNat, Nat.mod_eq_of_lt hn]

end

theorem exec_aesCbcEnc_checked (s : State) (p : Pending) (pad : Bool) (hp : s.pend = some p)
    (hc : encCheck s.buf pad p = none) :
    let x := s.buf.readBytes p.srcOff p.length
    exec (.aesCbcEnc pad) s = .next (s.wroteRegion p.dstOff (cbcEnc s.rkey s.iv (if pad then padBytes x else x))
      (encOutLen pad p.length) none) := by
  simp only [exec, execAesCbcEnc, withCommand_pending s p _ hp, hc]
  rfl

theorem exec_aesCbcDec_unpadded (s : State) (p : Pending) (hp : s.pend = some p) (hc : decCheck s.buf p = none) :
    exec (.aesCbcDec false) s = .next (s.wroteRegion p.dstOff
      (cbcDec s.rkey s.iv (s.buf.readBytes p.srcOff p.length)) p.length none) := by
  simp only [exec, execAesCbcDec, withCommand_pending s p _ hp, hc]
  rfl

theorem exec_aesCbcDec_pad_accepted (s : State) (p : Pending) (q : Nat) (hp : s.pend = some p)
    (hc : decCheck s.buf p = none)
    (hq : unpad (cbcDec s.rkey s.iv (s.buf.readBytes p.srcOff p.length)) = some q) :
    exec (.aesCbcDec true) s = .next (s.wroteRegion p.dstOff
      (cbcDec s.rkey s.iv (s.buf.readBytes p.srcOff p.length)) (p.length - q) none) := by
  simp only [exec, execAesCbcDec, withCommand_pending s p _ hp, hc, hq]
  rfl

/-- On PADDING_WRONG the destination region is zeroed (R120, R135). -/
theorem exec_aesCbcDec_pad_wrong (s : State) (p : Pending) (hp : s.pend = some p) (hc : decCheck s.buf p = none)
    (hq : unpad (cbcDec s.rkey s.iv (s.buf.readBytes p.srcOff p.length)) = none) :
    exec (.aesCbcDec true) s = .next (s.wroteRegion p.dstOff (List.replicate p.length 0) 0 (some .paddingWrong)) := by
  simp only [exec, execAesCbcDec, withCommand_pending s p _ hp, hc, hq]
  rfl

/-- Settles O37. -/
theorem aesCbcEncResult : Obligations.AesCbcEncResult := by
  intro s p pad hp hlen hsrc hdst hsize x c
  have hc : c.length = encOutLen pad p.length := by
    have h := cbcEnc_padded_length s.rkey s.iv pad x
    rw [Memory.readBytes_length] at h
    exact h hlen
  refine ⟨_, exec_aesCbcEnc_checked s p pad hp ((encCheck_none_iff _ _ _).2 ⟨hlen, hsrc, hdst⟩),
    s.wroteRegion_completed _ _ _ _, frame_wroteRegion s _ _ _ _, hc, s.bufHolds_wroteRegion _ _ _ _, ?_,
    s.toNat_outlen_wroteRegion _ _ _ _ (by omega)⟩
  exact hc ▸ s.bufSameOutside_wroteRegion _ c _ _

/-- Settles O38, by what `unpad` answers. -/
theorem aesCbcDecResult : Obligations.AesCbcDecResult := by
  intro s p hp hne hlen hsrc hdst hsize y written
  have hcheck : decCheck s.buf p = none := (decCheck_none_iff _ _).2 ⟨hne, hlen, hsrc, hdst⟩
  have hy : y.length = p.length := by
    rw [cbcDec_length, Memory.readBytes_length]; omega
  have hwritten (x : List Byte) (n : Nat) (code : Option ErrCode) (hx : x.length = p.length) :
      written (s.wroteRegion p.dstOff x n code) x :=
    ⟨frame_wroteRegion s _ _ _ _, hx, s.bufHolds_wroteRegion _ _ _ _, hx ▸ s.bufSameOutside_wroteRegion _ x _ _⟩
  refine ⟨?_, fun q hq => ⟨?_, ?_⟩, fun hwrong => ?_⟩
  · exact ⟨_, exec_aesCbcDec_unpadded s p hp hcheck, s.wroteRegion_completed _ _ _ _, hwritten y _ _ hy,
      s.toNat_outlen_wroteRegion _ _ _ _ (by omega)⟩
  · exact ((unpad_eq_some_iff y q).1 hq).2.1
  · exact ⟨_, exec_aesCbcDec_pad_accepted s p q hp hcheck hq, s.wroteRegion_completed _ _ _ _, hwritten y _ _ hy,
      s.toNat_outlen_wroteRegion _ _ _ _ (by omega)⟩
  · exact ⟨_, exec_aesCbcDec_pad_wrong s p hp hcheck hwrong, s.wroteRegion_completed _ _ _ _,
      hwritten _ _ _ List.length_replicate, rfl⟩

/-! ### Encryption, then decryption (R123) -/

/-- What AES_CBC_ENC.pad writes for `n` bytes is as long as the padded message (R118, R119). -/
theorem encOutLen_true (x : List Byte) : encOutLen true x.length = (padBytes x).length := by
  simp only [encOutLen, padBytes_length, if_true]
  omega

/-- AES_CBC_DEC.pad on a source region that holds the encryption of a padded message. -/
theorem exec_aesCbcDec_pad_of_encrypted (s : State) (p : Pending) (x : List Byte) (hp : s.pend = some p)
    (hc : decCheck s.buf p = none) (hlen : p.length = (padBytes x).length)
    (hsrc : s.buf.readBytes p.srcOff p.length = cbcEnc s.rkey s.iv (padBytes x)) :
    exec (.aesCbcDec true) s = .next (s.wroteRegion p.dstOff (padBytes x) x.length none) := by
  have hplain : cbcDec s.rkey s.iv (s.buf.readBytes p.srcOff p.length) = padBytes x := by
    rw [hsrc, cbcDec_cbcEnc _ _ _ (padBytes_length_mod x)]
  have hrun := exec_aesCbcDec_pad_accepted s p (padCount x) hp hc (by rw [hplain, unpad_padBytes])
  rwa [hplain, hlen, padBytes_length_eq, Nat.add_sub_cancel] at hrun

/-- Settles O59: the second command reads back the ciphertext that the first one wrote. -/
theorem encryptThenDecryptRestores : Obligations.EncryptThenDecryptRestores := by
  intro s p dst hp hsize hsrc henc hdec
  let x := s.buf.readBytes p.srcOff p.length
  let c := cbcEnc s.rkey s.iv (padBytes x)
  let t := s.wroteRegion p.dstOff c (encOutLen true p.length) none
  let p' : Pending := ⟨encode (.aesCbcDec true), p.dst, dst, BitVec.ofNat 32 (encOutLen true p.length)⟩
  have hx : x.length = p.length := s.buf.readBytes_length _ _
  have hout : encOutLen true p.length = (padBytes x).length := hx ▸ encOutLen_true x
  have hmod := padBytes_length_mod x
  have hpos := padBytes_length x
  have hc : c.length = (padBytes x).length := by rw [cbcEnc_length]; omega
  have hlen : p'.length = (padBytes x).length := by
    rw [Pending.length, BitVec.toNat_ofNat, ← hout]; omega
  have htsize : t.buf.size = s.buf.size := s.buf.writeBytes_size _ _
  have hcheck : decCheck t.buf p' = none := by
    rw [decCheck_none_iff, hlen, htsize, ← hout]
    exact ⟨by omega, by omega, henc, hdec⟩
  have hread : t.buf.readBytes p.dstOff p'.length = c := by
    rw [hlen, ← hc]
    exact s.buf.readBytes_writeBytes _ _
  have hencrypt : exec (.aesCbcEnc true) s = .next t :=
    exec_aesCbcEnc_checked s p true hp ((encCheck_none_iff _ _ _).2 ⟨.inl rfl, hsrc, henc⟩)
  have hdecrypt := exec_aesCbcDec_pad_of_encrypted { t with pend := some p' } p' x rfl hcheck hlen hread
  refine ⟨t, _, hencrypt, hdecrypt, State.wroteRegion_completed _ _ _ _ _, ?_, State.bufHolds_wroteRegion _ _ _ _ _⟩
  rw [State.toNat_outlen_wroteRegion _ _ _ _ _ (by omega), hx]

end Sys2Proof.Machine

/-! SUPPORT. The proofs of the family `60_exceptions.md`: which errors a command can raise and what it has written when it
raises one, STATUS at completion, its acknowledgement, and the IRQ output. -/

namespace Sys2Proof.Machine

/-! ### The errors of each command (R52, R141) -/

/-- The errors a command can raise: the last column of the table of R52. ILLEGAL_COMMAND is not among them, for it
stands for a word that selects no command (R132). -/
def errorsOf : Instr → List ErrCode
  | .crc8Buf | .lrcBuf | .md5Update => [.bounds]
  | .verifyG0 | .verifyG1 => [.ivCheckError]
  | .cmpDigest => [.checksumWrong]
  | .aesCbcEnc _ => [.cipherLenWrong, .bounds]
  | .aesCbcDec pad => .cipherLenWrong :: .bounds :: if pad then [.paddingWrong] else []
  | _ => []

/-- What a command may have written, beside STATUS, when it ends with an error (R141). -/
def writesOnError (i : Instr) : ErrCode → List Output
  | .bounds | .cipherLenWrong => if isAes i then [.outlen] else []
  | .ivCheckError => [.chkCrc, .chkG1, .chkLrc, .chkG2]
  | .paddingWrong => [.buf, .outlen]
  | .checksumWrong | .illegalCommand => []

/-- If the command ended with an error, it is one of the command's own, and nothing is written but what that error
allows. -/
def EndsPrecisely (i : Instr) (s t : State) : Prop :=
  ∀ e, t.err = some e → e ∈ errorsOf i ∧ Frame (writesOnError i e) s t

theorem endsPrecisely_of_no_error {i : Instr} {s t : State} (h : t.err = none) : EndsPrecisely i s t :=
  fun _ he => nomatch h.symm.trans he

/-- If the command ended with this error, the two facts about it are enough. -/
theorem endsPrecisely_of_error {i : Instr} {s t : State} {e : ErrCode} (herr : t.err = some e) (hmem : e ∈ errorsOf i)
    (hframe : Frame (writesOnError i e) s t) : EndsPrecisely i s t := by
  intro e' he'
  cases herr.symm.trans he'
  exact ⟨hmem, hframe⟩

/-- A command that fails no check ends precisely. -/
theorem endsPrecisely_of_withCommand {i : Instr} {s t : State} {run : Pending → State × Option ErrCode}
    (h : withCommand s run = .next t) (hrun : ∀ p, (run p).2 = none) : EndsPrecisely i s t :=
  endsPrecisely_of_no_error (withCommand_next_of (P := fun t => t.err = none) h hrun)

/-- A command with a source region ends precisely when BOUNDS is its one error: then it has written nothing (R133). -/
theorem endsPrecisely_of_withSource {i : Instr} {s t : State} {run : Pending → List Byte → State × Option ErrCode}
    (h : withCommand s (fun p => withSource s p (run p)) = .next t) (hrun : ∀ p data, (run p data).2 = none)
    (hmem : .bounds ∈ errorsOf i) (haes : isAes i = false) : EndsPrecisely i s t := by
  refine withCommand_next_of h fun p =>
    withSource_of (P := fun r => EndsPrecisely i s (r.1.complete r.2)) ?_ fun data => ?_
  · have hwrites : writesOnError i .bounds = [] := if_neg (by simp [haes])
    exact endsPrecisely_of_error rfl hmem (hwrites ▸ frame_complete s _)
  · exact endsPrecisely_of_no_error (hrun p data)

/-- The completion of a check that compares, after writing no more than its error allows. -/
theorem endsPrecisely_complete_ite {i : Instr} {s t : State} {e : ErrCode} {c : Prop} [Decidable c]
    (hmem : e ∈ errorsOf i) (hframe : Frame (writesOnError i e) s t) :
    EndsPrecisely i s (t.complete (if c then some e else none)) := by
  split_ifs
  · exact endsPrecisely_of_error rfl hmem (hframe.complete _)
  · exact endsPrecisely_of_no_error rfl

theorem endsPrecisely_verifyG1 (s t : State) (h : exec .verifyG1 s = .next t) : EndsPrecisely .verifyG1 s t := by
  obtain ⟨p, hp, -⟩ := withCommand_next s t _ h
  by_cases hmatch : s.GchecksMatch
  · cases (exec_verifyG1_match s p hp hmatch).symm.trans h
    exact endsPrecisely_of_no_error rfl
  · cases (exec_verifyG1_mismatch s p hp hmatch).symm.trans h
    exact endsPrecisely_of_error rfl (by decide) (((frame_withGcheck s).complete _).mono (by decide))

/-! ### The errors of the AES commands (R119, R120) -/

theorem encCheck_error (m : Memory) (pad : Bool) (p : Pending) (e : ErrCode) (h : encCheck m pad p = some e) :
    e = .cipherLenWrong ∨ e = .bounds := by
  unfold encCheck at h
  split_ifs at h <;> cases h <;> simp

theorem decCheck_error (m : Memory) (p : Pending) (e : ErrCode) (h : decCheck m p = some e) :
    e = .cipherLenWrong ∨ e = .bounds := by
  unfold decCheck at h
  split_ifs at h <;> cases h <;> simp

/-- A failed check of an AES command: only OUTLEN is written (R119, R120). -/
theorem endsPrecisely_check_failed {i : Instr} (s : State) {e : ErrCode} (haes : isAes i = true)
    (he : e = .cipherLenWrong ∨ e = .bounds) : EndsPrecisely i s ((s.setOutlen 0).complete (some e)) := by
  have hmem : e ∈ errorsOf i := by
    cases i with
    | aesCbcEnc | aesCbcDec => obtain rfl | rfl := he <;> simp [errorsOf]
    | _ => cases haes
  have hwrites : writesOnError i e = [.outlen] := by obtain rfl | rfl := he <;> exact if_pos haes
  exact endsPrecisely_of_error rfl hmem (hwrites ▸ (frame_setOutlen s 0).complete _)

theorem endsPrecisely_aesCbcEnc (pad : Bool) (s t : State) (h : exec (.aesCbcEnc pad) s = .next t) :
    EndsPrecisely (.aesCbcEnc pad) s t := by
  obtain ⟨p, hp, -⟩ := withCommand_next s t _ h
  cases hcheck : encCheck s.buf pad p with
  | some e =>
    cases (exec_aesCbcEnc_check_failed s p pad e hp hcheck).symm.trans h
    exact endsPrecisely_check_failed s rfl (encCheck_error _ _ _ _ hcheck)
  | none =>
    cases (exec_aesCbcEnc_checked s p pad hp hcheck).symm.trans h
    exact endsPrecisely_of_no_error rfl

theorem endsPrecisely_aesCbcDec (pad : Bool) (s t : State) (h : exec (.aesCbcDec pad) s = .next t) :
    EndsPrecisely (.aesCbcDec pad) s t := by
  obtain ⟨p, hp, -⟩ := withCommand_next s t _ h
  cases hcheck : decCheck s.buf p with
  | some e =>
    cases (exec_aesCbcDec_check_failed s p pad e hp hcheck).symm.trans h
    exact endsPrecisely_check_failed s rfl (decCheck_error _ _ _ hcheck)
  | none =>
    cases pad with
    | false =>
      cases (exec_aesCbcDec_unpadded s p hp hcheck).symm.trans h
      exact endsPrecisely_of_no_error rfl
    | true =>
      cases hpad : unpad (cbcDec s.rkey s.iv (s.buf.readBytes p.srcOff p.length)) with
      | some q =>
        cases (exec_aesCbcDec_pad_accepted s p q hp hcheck hpad).symm.trans h
        exact endsPrecisely_of_no_error rfl
      | none =>
        cases (exec_aesCbcDec_pad_wrong s p hp hcheck hpad).symm.trans h
        exact endsPrecisely_of_error rfl (by decide) (frame_wroteRegion s _ _ _ _)

/-! ### Errors are precise (R141) -/

theorem exec_endsPrecisely (i : Instr) (s t : State) (h : exec i s = .next t) : EndsPrecisely i s t := by
  cases i with
  | crc8Buf | lrcBuf | md5Update => exact endsPrecisely_of_withSource h (fun _ _ => rfl) (by decide) rfl
  | verifyG0 =>
    obtain ⟨p, -, rfl⟩ := withCommand_next s t _ h
    exact endsPrecisely_complete_ite (by decide) ((frame_setChkCrc s _).mono (by decide))
  | verifyG1 => exact endsPrecisely_verifyG1 s t h
  | cmpDigest =>
    obtain ⟨p, -, rfl⟩ := withCommand_next s t _ h
    exact endsPrecisely_complete_ite (by decide) (Frame.refl _ s)
  | aesCbcEnc pad => exact endsPrecisely_aesCbcEnc pad s t h
  | aesCbcDec pad => exact endsPrecisely_aesCbcDec pad s t h
  | _ => exact endsPrecisely_of_withCommand h fun _ => rfl

theorem illegalCommand_not_mem_errorsOf (i : Instr) : .illegalCommand ∉ errorsOf i := by
  cases i <;> simp [errorsOf]

theorem eq_aesCbcDec_of_paddingWrong_mem (i : Instr) (h : .paddingWrong ∈ errorsOf i) : i = .aesCbcDec true := by
  cases i with
  | aesCbcDec pad => simpa [errorsOf] using h
  | _ => simp [errorsOf] at h

/-- The outputs that some error allows to be written: only CHK, BUF and OUTLEN. -/
theorem writesOnError_subset (i : Instr) (e : ErrCode) :
    writesOnError i e ⊆ [.chkCrc, .chkG1, .chkLrc, .chkG2, .buf, .outlen] := by
  cases e with
  | bounds | cipherLenWrong => cases h : isAes i <;> simp [writesOnError, h]
  | _ => simp [writesOnError]

/-- Settles O44: each error comes with its own frame, and no error's frame holds a key, an IV, a digest, a mask or M. -/
theorem errorsArePrecise : Obligations.ErrorsArePrecise := by
  intro i s t e hexec herr
  obtain ⟨hmem, hframe⟩ := exec_endsPrecisely i s t hexec e herr
  obtain ⟨hinputs, hkept⟩ := hframe.mono (writesOnError_subset i e)
  refine ⟨fun he => ?_, ?_, ?_, ?_, ?_, hinputs, hkept .rkey (by decide), hkept .iv (by decide),
    hkept .ivenc (by decide), hkept .sum (by decide), hkept .sumb (by decide), hkept .digest (by decide),
    hkept .md5 (by decide)⟩
  · have hwrites : writesOnError i e = if isAes i then [.outlen] else [] := by obtain rfl | rfl := he <;> rfl
    rw [hwrites] at hframe
    refine ⟨hframe.mono ?_, fun haes => ?_⟩
    · split_ifs <;> simp
    · simpa [haes] using hframe
  · rintro rfl
    exact hframe
  · rintro rfl
    exact hframe
  · rintro rfl
    exact ⟨eq_aesCbcDec_of_paddingWrong_mem i hmem, hframe⟩
  · rintro rfl
    exact illegalCommand_not_mem_errorsOf i hmem

/-! ### STATUS at completion (R130) -/

/-- STATUS right after a completion with WBUSY = 0 is fixed by the code: it is what the reset state would show. -/
theorem statusWord_complete (s : State) (code : Option ErrCode) (h : s.wbusy = false) :
    (s.complete code).statusWord = (State.reset.complete code).statusWord := by
  simp only [State.statusWord, State.busy, State.errFlag, State.errcode, State.complete_pend, State.complete_done,
    State.complete_err, State.complete_wbusy, h]
  rfl

/-- Settles O21. -/
theorem statusAtCompletion : Obligations.StatusAtCompletion := fun s h =>
  ⟨statusWord_complete_none s h, statusWord_complete_illegal s h, statusWord_complete s (some .bounds) h,
    statusWord_complete s (some .cipherLenWrong) h, statusWord_complete s (some .paddingWrong) h,
    statusWord_complete s (some .ivCheckError) h, statusWord_complete s (some .checksumWrong) h⟩

/-! ### Acknowledgement (R142) -/

/-- A whole-word write to STATUS is the acknowledgement, busy or not. -/
theorem State.transfer_status (s : State) (d : Word) (prot : BitVec 3) (hpin : s.presetn = true) :
    s.transfer (.write 0x008 d 0xF prot) = (s.acknowledge d).answered (.wrote false) :=
  (s.transfer_write 8#13 d 15#4 prot hpin).trans (by rw [s.writeTransfer_status d]; rfl)

theorem State.acknowledge_eq (s : State) (d : Word) : s.acknowledge d = { s with
    done := s.done && !d[1], err := if d[2] then none else s.err, wbusy := s.wbusy && !d[3] } := by
  have hclear (b c : Bool) : (if b then false else c) = (c && !b) := by cases b <;> simp
  rw [State.acknowledge, hclear, hclear]

/-- Settles O11. -/
theorem statusWriteAcknowledges : Obligations.StatusWriteAcknowledges := by
  intro s hpin
  refine ⟨fun d prot => ?_, ?_, fun d => ⟨rfl, rfl, rfl, rfl⟩⟩
  · rw [s.transfer_status d prot hpin, s.acknowledge_eq d]
    rfl
  · have hclr : s.transfer clr = (s.acknowledge 0x0000000E).answered (.wrote false) := s.transfer_status _ 0 hpin
    rw [hclr]
    exact ⟨rfl, rfl, rfl, rfl⟩

/-! ### IRQ (R144) -/

/-- A write to CTRL with SRST clear while BUSY = 0 changes CTRL alone (R14). -/
theorem State.transfer_ctrl_idle (s : State) (d : Word) (prot : BitVec 3) (hpin : s.presetn = true)
    (hb : s.busy = false) (hd : d[31] = false) :
    s.transfer (.write 0x004 d 0xF prot) = { s with ctrl := Ctrl.ofWord d, resp := some (.wrote false) } :=
  s.transfer_write_idle 0x004 d 0xF prot hpin hb rfl (fun _ => rfl) (by decide) (by simp [hd])

theorem State.irq_of_not_done (s : State) (h : s.done = false) : s.irq = false := by
  rw [State.irq, h, Bool.and_false]

theorem State.irq_transfer_status (s : State) (d : Word) (prot : BitVec 3) (hpin : s.presetn = true)
    (hd : d[1] = true) : (s.transfer (.write 0x008 d 0xF prot)).irq = false := by
  rw [s.transfer_status d prot hpin]
  exact State.irq_of_not_done _ (if_pos hd)

/-- Settles O20: both resets by the reset table, every other fall by DONE or IRQEN. -/
theorem irqIsLevelOfDone : Obligations.IrqIsLevelOfDone := by
  refine ⟨fun s => rfl, fun s code => Bool.and_true _, fun s hpin => ⟨?_, ?_, ?_, ?_⟩, fun s => ?_, rfl⟩
  · exact fun d prot => s.irq_transfer_status d prot hpin
  · intro d prot hb
    rw [s.transfer_cmd_idle d prot hpin hb]
    exact State.irq_of_not_done _ rfl
  · intro d prot hb hd
    rw [s.transfer_ctrl_idle d prot hpin hb hd]
    rfl
  · intro d prot hd
    obtain ⟨-, -, hirq, -⟩ := resetsReachResetTable s _ (.inl ⟨hpin, d, prot, hd, rfl⟩)
    exact hirq
  · obtain ⟨-, -, hirq, -⟩ := resetsReachResetTable s _ (.inr (.inl rfl))
    exact hirq

end Sys2Proof.Machine

/-! SUPPORT. The proofs of the family `70_reset_and_hazards.md`: which bytes an abort leaves unspecified, and that
transfers during a hardware reset are ignored. -/

namespace Sys2Proof.Machine

/-! ### The destination region an abort sees (R161) -/

theorem destRegion_aesCbcEnc (m : Memory) (p : Pending) (pad : Bool) (hw : p.word = encode (.aesCbcEnc pad)) :
    destRegion m p = if encCheck m pad p = none then some (p.dstOff, encOutLen pad p.length) else none := by
  simp only [destRegion, hw, decode_encode]

theorem destRegion_aesCbcDec (m : Memory) (p : Pending) (pad : Bool) (hw : p.word = encode (.aesCbcDec pad)) :
    destRegion m p = if decCheck m p = none then some (p.dstOff, p.length) else none := by
  simp only [destRegion, hw, decode_encode]

/-- Only the words of the AES commands have a destination region. -/
theorem destRegion_of_not_aes (m : Memory) (p : Pending)
    (hw : ∀ pad, p.word ≠ encode (.aesCbcEnc pad) ∧ p.word ≠ encode (.aesCbcDec pad)) : destRegion m p = none := by
  unfold destRegion
  split
  next pad hd => exact absurd ((decode_eq_ok_iff_eq_encode _ _).1 hd) (hw pad).1
  next pad hd => exact absurd ((decode_eq_ok_iff_eq_encode _ _).1 hd) (hw pad).2
  next => rfl

/-! ### BUF after an abort (R161) -/

section
variable {s : State} {p : Pending}

theorem State.abort_buf_of_region {off n : Nat} (hp : s.pend = some p) (hr : destRegion s.buf p = some (off, n)) :
    s.abort.buf = s.buf.writeBytes off (freshBytes s.draws n) := by
  simp [State.abort, hp, hr]

theorem State.abort_buf_of_no_region (hp : s.pend = some p) (hr : destRegion s.buf p = none) :
    s.abort.buf = s.buf := by
  simp [State.abort, hp, hr]

/-- Where the checks of the pending command decide whether it has the region `(off, n)`, an abort changes that region
and nothing else if they pass, and no byte of BUF if one fails. -/
theorem abort_touches_region {t : State} {off n : Nat} {code : Option ErrCode} {passes : Prop}
    (hp : s.pend = some p) (ht : t.buf = s.abort.buf)
    (hr : destRegion s.buf p = if code = none then some (off, n) else none) (hc : code = none ↔ passes) :
    (passes → BufSameOutside off n s t ∧ ∀ k, k < n → t.buf.read (off + k) = Config.unspecByte (s.draws + k)) ∧
    (¬passes → t.buf = s.buf) := by
  refine ⟨fun h => ?_, fun h => ?_⟩
  · rw [if_pos (hc.2 h)] at hr
    rw [BufSameOutside, ht, State.abort_buf_of_region hp hr]
    refine ⟨⟨Memory.writeBytes_size _ _ _, fun a ha => ?_⟩, fun k hk => ?_⟩
    · exact Memory.read_writeBytes_outside _ _ _ _ (by rwa [freshBytes_length])
    · rw [Memory.read_writeBytes_inside _ _ _ _ (by rwa [freshBytes_length]), freshBytes_getD _ _ _ hk]
  · rw [if_neg (mt hc.1 h)] at hr
    rw [ht, State.abort_buf_of_no_region hp hr]

end

/-- Settles O23: all three resets leave the BUF of the abort, which the destination region of the word decides. -/
theorem abortLeavesOtherBytes : Obligations.AbortLeavesOtherBytes := by
  intro s t p hp h
  have ht : t.buf = s.abort.buf := by
    obtain ⟨level, resp, rfl⟩ := reset_outcomes s t h
    rfl
  refine ⟨fun pad hw => ?_, fun pad hw => ?_, fun hw => ?_⟩
  · exact abort_touches_region hp ht (destRegion_aesCbcEnc s.buf p pad hw) (encCheck_none_iff s.buf pad p)
  · exact abort_touches_region hp ht (destRegion_aesCbcDec s.buf p pad hw) (decCheck_none_iff s.buf p)
  · rw [ht, State.abort_buf_of_no_region hp (destRegion_of_not_aes s.buf p hw)]

/-! ### Transfers while PRESETn is low (R160) -/

theorem State.transfer_in_reset (s : State) (x : Transfer) (hpin : s.presetn = false) :
    s.transfer x = s.ignoredTransfer x := if_pos hpin

/-- Settles O24: PSLVERR is the bus error of R37, for which the level of PRESETn does not matter. -/
theorem transfersInResetAreIgnored : Obligations.TransfersInResetAreIgnored := by
  intro s hpin
  refine ⟨fun a d strb prot => ?_, fun a prot => ?_⟩
  · exact ⟨s.busError (.write a d strb prot), s.busError_write_iff a d strb prot, s.transfer_in_reset _ hpin⟩
  · exact ⟨s.busError (.read a prot), misaligned_iff a, s.transfer_in_reset _ hpin⟩

end Sys2Proof.Machine
